-- ==== Sys2Proof/Word.lean ====
section
/-! DEFINITION. The one bit-vector type of the model: a byte of a line (R205).

Every other quantity of the spec is an unsigned integer, a signed key shift or a name, and is modelled as
`Nat`, `Int` or an inductive type; only what crosses a line as bits is a bit vector. -/

namespace Sys2Proof

/-- One byte as it crosses a panel line, the media port or the desk line. -/
abbrev Byte : Type := BitVec 8

end Sys2Proof
end

