-- ==== Sys2Proof/Syntax.lean ====
section
/-! DEFINITION. The commands of the controller: one constructor for each row of spec/opcode_table.json.

A command carries what its row's event brings to the controller: the line it comes on, the bytes of a frame, of a
media port command or of a desk write, the samples of a character, a conversion value, a count.  The kind byte of a
frame or command is not an operand: the constructor names it (only the three "unknown kind" rows carry one).
What the bytes mean is in `Machine/Operands.lean`; which operands can occur is in `WellFormed.lean`. -/

namespace Sys2Proof

/-- The two panel lines (0.2): A is the wall panel, B the handset base station. -/
inductive PanelLine where
  | a
  | b
deriving DecidableEq, Repr

/-- The two microphones (chapter 6). -/
inductive Mic where
  | a
  | b
deriving DecidableEq, Repr

/-- The commands: every step of spec/opcode_table.json, in the table's order. -/
inductive Instr where
  /-- PANEL_BREAK (R26): the eleventh low bit time of a confirmed start completes on the line. -/
  | panelBreak (line : PanelLine)
  /-- PANEL_CHARACTER (R25, R26, R28): the samples taken at the 7th, 8th and 9th sixteenths of the eleven bits of a
  character; bit 0 of each is the start bit, bits 1 to 8 the data (least significant first), bit 9 the parity bit and
  bit 10 the stop bit.  A low stop bit here is one after which the line returned high in time, R26's FRAMING case. -/
  | panelCharacter (line : PanelLine) (seventh eighth ninth : BitVec 11)
  /-- GAP (R29): the gap count of a frame in progress reaches 44 bit times. -/
  | gap (line : PanelLine)
  /-- ASK_SONG (R37): a complete frame of kind 0x10. -/
  | askSong (line : PanelLine) (payload : List Byte)
  /-- DROP_ENTRY (R38): a complete frame of kind 0x11. -/
  | dropEntry (line : PanelLine) (payload : List Byte)
  /-- SHIFT_ENTRY (R39): a complete frame of kind 0x12. -/
  | shiftEntry (line : PanelLine) (payload : List Byte)
  /-- SKIP_NOW (R87): a complete frame of kind 0x13. -/
  | skipNow (line : PanelLine) (payload : List Byte)
  /-- HOLD (R82): a complete frame of kind 0x14. -/
  | hold (line : PanelLine) (payload : List Byte)
  /-- GO (R84): a complete frame of kind 0x15. -/
  | go (line : PanelLine) (payload : List Byte)
  /-- KEY (R85): a complete frame of kind 0x16. -/
  | key (line : PanelLine) (payload : List Byte)
  /-- PEEK_QUEUE (R42): a complete frame of kind 0x17. -/
  | peekQueue (line : PanelLine) (payload : List Byte)
  /-- PEEK_NOW (R43): a complete frame of kind 0x18. -/
  | peekNow (line : PanelLine) (payload : List Byte)
  /-- PEEK_PAST (R44): a complete frame of kind 0x19. -/
  | peekPast (line : PanelLine) (payload : List Byte)
  /-- PANEL_UNKNOWN_KIND (R32): a complete frame whose kind is none of the ten. -/
  | panelUnknownKind (line : PanelLine) (kind : Byte) (payload : List Byte)
  /-- SHIFT_COMPLETION (R35): the last stop bit of the reply frame in the line's shift has been sent. -/
  | shiftCompletion (line : PanelLine)
  /-- MSN_FALL (R174): the media port's select falls. -/
  | msnFall
  /-- MSN_RISE (R178): the media port's select rises. -/
  | msnRise
  /-- STAGE_OPEN (R55): a media command of kind 0x01, taken at its check byte. -/
  | stageOpen (payload : List Byte) (check : Byte)
  /-- LINE (R58): a media command of kind 0x02. -/
  | line (payload : List Byte) (check : Byte)
  /-- NOTE (R60): a media command of kind 0x03. -/
  | note (payload : List Byte) (check : Byte)
  /-- STAGE_CLOSE (R61): a media command of kind 0x04. -/
  | stageClose (payload : List Byte) (check : Byte)
  /-- STAGE_FAIL (R62): a media command of kind 0x05. -/
  | stageFail (payload : List Byte) (check : Byte)
  /-- TIME_MARK_RUN (R77): a media command of kind 0x06 whose mark is not of kind END. -/
  | timeMarkRun (payload : List Byte) (check : Byte)
  /-- TIME_MARK_END (R86): a media command of kind 0x06 whose mark is of kind END. -/
  | timeMarkEnd (payload : List Byte) (check : Byte)
  /-- READ_DIRECTIVE (R182): a media command of kind 0x07. -/
  | readDirective (payload : List Byte) (check : Byte)
  /-- ACK_DIRECTIVE (R181): a media command of kind 0x08. -/
  | ackDirective (payload : List Byte) (check : Byte)
  /-- READ_SCENE (R184): a media command of kind 0x09. -/
  | readScene (payload : List Byte) (check : Byte)
  /-- REPEAT_ANSWER (R179): a media command of kind 0x0A. -/
  | repeatAnswer (payload : List Byte) (check : Byte)
  /-- MEDIA_UNKNOWN_KIND (R176): a media command whose kind is none of the ten. -/
  | mediaUnknownKind (kind : Byte) (payload : List Byte) (check : Byte)
  /-- MILLISECOND_TICK (R76). -/
  | millisecondTick
  /-- START_TIMER_EXPIRY (R73). -/
  | startTimerExpiry
  /-- STALL_TIMER_EXPIRY (R80). -/
  | stallTimerExpiry
  /-- STALL_LIMIT_EXPIRY (R81). -/
  | stallLimitExpiry
  /-- STOP_TIMER_EXPIRY (R91). -/
  | stopTimerExpiry
  /-- LYRIC_STEP (R97): the sequencer takes a waiting advance of kind STEP. -/
  | lyricStep
  /-- LYRIC_REBUILD (R106): the sequencer takes a waiting advance of kind JUMP or REWIND. -/
  | lyricRebuild
  /-- LYRIC_NEW_SONG (R96): the sequencer is told that a new song begins. -/
  | lyricNewSong
  /-- LYRIC_DROP_SONG (R115): the sequencer is told to drop the song. -/
  | lyricDropSong
  /-- GRADER_STEP (R142): the grader takes a waiting advance of kind STEP or JUMP. -/
  | graderStep
  /-- GRADER_REWIND (R144): the grader takes a waiting advance of kind REWIND. -/
  | graderRewind
  /-- GRADER_NEW_SONG (R140): the grader is told that a new song begins. -/
  | graderNewSong
  /-- GRADER_FINAL_SCORES (R151): the grader is asked for final scores. -/
  | graderFinalScores
  /-- GRADER_SONG_ENDED (R89, step 2): the grader is told that the song ended without scores. -/
  | graderSongEnded
  /-- GRADER_DISCARD (R158): the grader is told to discard its song. -/
  | graderDiscard
  /-- CONVERSION_COMPLETION (R124): the conversion in flight completes with the value given. -/
  | conversionCompletion (value : BitVec 10)
  /-- ZERO_CROSS_EDGE (R129): a rising edge on a microphone's zero-cross input, `counts` capture clock counts after
  that microphone's edge before it. -/
  | zeroCrossEdge (mic : Mic) (counts : Nat)
  /-- SETTLE_TIMER_EXPIRY (R136). -/
  | settleTimerExpiry
  /-- DESK_BUS_TIMEOUT (R191). -/
  | deskBusTimeout
  /-- STATUS (R197): a desk write of kind 0x40, ended by its stop or repeated start. -/
  | status (fields : List Byte)
  /-- READ_EVENTS (R193): a desk write of kind 0x41. -/
  | readEvents (fields : List Byte)
  /-- ACK_EVENTS (R193): a desk write of kind 0x42. -/
  | ackEvents (fields : List Byte)
  /-- EVENT_MASK (R193): a desk write of kind 0x43. -/
  | eventMask (fields : List Byte)
  /-- CREDITS_SET (R18): a desk write of kind 0x44. -/
  | creditsSet (fields : List Byte)
  /-- CREDITS_ADD (R18): a desk write of kind 0x45. -/
  | creditsAdd (fields : List Byte)
  /-- CREDITS_UNLIMITED (R18): a desk write of kind 0x46. -/
  | creditsUnlimited (fields : List Byte)
  /-- LOCK (R21): a desk write of kind 0x47. -/
  | lock (fields : List Byte)
  /-- UNLOCK (R21): a desk write of kind 0x48. -/
  | unlock (fields : List Byte)
  /-- CONFIG_SET (R194): a desk write of kind 0x49. -/
  | configSet (fields : List Byte)
  /-- CONFIG_READ (R196): a desk write of kind 0x4A. -/
  | configRead (fields : List Byte)
  /-- INSERT_PRIORITY (R8): a desk write of kind 0x4B. -/
  | insertPriority (fields : List Byte)
  /-- PROMOTE (R12): a desk write of kind 0x4C. -/
  | promote (fields : List Byte)
  /-- MOVE (R11): a desk write of kind 0x4D. -/
  | move (fields : List Byte)
  /-- REMOVE (R13): a desk write of kind 0x4E. -/
  | remove (fields : List Byte)
  /-- STOP_SONG (R88): a desk write of kind 0x4F. -/
  | stopSong (fields : List Byte)
  /-- READ_QUEUE (R203): a desk write of kind 0x50. -/
  | readQueue (fields : List Byte)
  /-- READ_HISTORY (R170): a desk write of kind 0x51. -/
  | readHistory (fields : List Byte)
  /-- READ_BOARD (R171): a desk write of kind 0x52. -/
  | readBoard (fields : List Byte)
  /-- READ_LINE_COUNTERS (R203): a desk write of kind 0x53. -/
  | readLineCounters (fields : List Byte)
  /-- NEW_SESSION (R168): a desk write of kind 0x54. -/
  | newSession (fields : List Byte)
  /-- ROOM_CLEAR (R202): a desk write of kind 0x55. -/
  | roomClear (fields : List Byte)
  /-- STANDBY (R200): a desk write of kind 0x56. -/
  | standby (fields : List Byte)
  /-- WAKE (R201): a desk write of kind 0x57. -/
  | wake (fields : List Byte)
  /-- DESK_RESET (R199): a desk write of kind 0x58. -/
  | deskReset (fields : List Byte)
  /-- DESK_UNKNOWN_KIND (R189): a desk write whose first byte is no desk command. -/
  | deskUnknownKind (kind : Byte) (fields : List Byte)
  /-- POWER_ON (R198): the supply becomes valid after a loss of power. -/
  | powerOn
  /-- LOW_SUPPLY (R198): the supply has been below the trip level for 100 µs. -/
  | lowSupply
  /-- RESET_PIN (R198): RSTN is asserted. -/
  | resetPin
  /-- LEAVING_RESET (R198): the hold or the 4096 cycles end, with the value on the address-select pins (DAS1, DAS0). -/
  | leavingReset (addressSelect : BitVec 2)
  /-- LINE_RETURNS_HIGH (R26): a panel receive line is high again, after a break or after reset. -/
  | lineReturnsHigh (line : PanelLine)
  /-- DESK_START_CONDITION (R187): a start or repeated start and the address byte after it. -/
  | deskStartCondition (addressByte : Byte)
  /-- DESK_STOP_CONDITION (R190): a stop that ends a read, or a write with no byte stored. -/
  | deskStopCondition
  /-- SUPPLY_RECOVERY (R198): after a low supply the supply is valid again. -/
  | supplyRecovery
  /-- RSTN_RELEASE (R198): RSTN is released. -/
  | rstnRelease
deriving DecidableEq, Repr

end Sys2Proof
end

