-- ==== Sys2Proof/Decode.lean ====
section
/-! DEFINITION. The command a word spells by the opcode table's bits.

No row of spec/opcode_table.json gives bits ("fields" is empty in every row), so no word spells a command.  How the bytes
of the lines are read is in `Machine/Operands.lean`. -/

namespace Sys2Proof

/-- The command that the low `nbits` bits of a word spell: none, since no row of the table gives bits. -/
def decodeTableWord (_nbits _w : Nat) : Option Instr := none

end Sys2Proof
end

