-- ==== Sys2Proof/Config.lean ====
section
/-! DEFINITION. What the part fixes: the principal quantities of section 0.9 and of the chapters' rules, and the
model's one free value. -/

namespace Sys2Proof.Config

/-- The most entries the room queue holds (R1). -/
@[simp] abbrev queueCapacity : Nat := 32
/-- The greatest entry id (R2, R4). -/
@[simp] abbrev maxId : Nat := 250
/-- The greatest song number (R2). -/
@[simp] abbrev maxSong : Nat := 999999
/-- The greatest number of credits (R18). -/
@[simp] abbrev maxCredits : Nat := 999
/-- The upper bound of play time and of every media time, in ms (0.5, R75, R79). -/
@[simp] abbrev maxPlayTime : Nat := 3599999
/-- The records the history holds (R163). -/
@[simp] abbrev historySize : Nat := 16
/-- The records the session board holds (R166). -/
@[simp] abbrev boardSize : Nat := 8
/-- The start timer, in ms (R71). -/
@[simp] abbrev startTime : Nat := 3000
/-- The stall timer, in ms, and the upper bound of E (R75, R80). -/
@[simp] abbrev stallTime : Nat := 500
/-- The stall-limit timer, in ms (R80). -/
@[simp] abbrev stallLimitTime : Nat := 8000
/-- The stop timer, in ms (R73, R81, R88, R92). -/
@[simp] abbrev stopTime : Nat := 2000
/-- The rise of play time above which an advance is a JUMP, in ms (R76). -/
@[simp] abbrev jumpRise : Nat := 1000
/-- The fall of play time up to which a mark is held and above which it is a rewind, in ms (R77, R84). -/
@[simp] abbrev holdBack : Nat := 250
/-- The wake settle, in ms (R136). -/
@[simp] abbrev settleTime : Nat := 20
/-- The desk bus timeout, in ms (R191). -/
@[simp] abbrev busTimeout : Nat := 20
/-- Millisecond ticks of the start-up hold: 64 ms, and one more for the 4096 crystal cycles that follow (R198, log entry
15). -/
@[simp] abbrev startupHoldTicks : Nat := 65
/-- Millisecond ticks from one envelope scan to the next (R123). -/
@[simp] abbrev scanPeriod : Nat := 2
/-- The lead byte of a panel frame, 0xC3 (R27). -/
@[simp] abbrev leadByte : Byte := 195#8
/-- The longest media port payload that is stored (R176). -/
@[simp] abbrev mediaPayloadLimit : Nat := 1280
/-- The bytes of one desk write that are stored (R188). -/
@[simp] abbrev deskWriteLimit : Nat := 16
/-- The bus address before the address-select pins are added (R187). -/
@[simp] abbrev busAddressBase : Nat := 0x38

/-- The id a submission would be given if every id from 1 to 250 were in use.  R4 counts at most 49 ids in use at once,
so no run asks for it; it has no body, so that nothing can be proved of it (log entry 4). -/
opaque exhaustedId : Nat

end Sys2Proof.Config
end

