-- ==== Sys2Proof/Machine/State.lean ====
section
/-! DEFINITION. The controller's state as plain data: one structure for each block of section 0.3, the queue of waiting
commands, and the state right after reset.

Where a value of the spec is absent or present it is an `Option`; where it is one of a set of names it is an inductive
type; a current entry that has finished carries the entry id 0 (R68). -/

namespace Sys2Proof.Machine

/-! ## Names shared by the blocks -/

/-- The result codes shared by the three lines (0.5, section 11.2). -/
inductive ResultCode where
  | ok | full | quota | locked | notFound | notYours | notPlaying | notPaused | noSkip
  | stale | badField | badKind | busy | standby | order | countMismatch | tooLarge | notLoading | nothing
deriving DecidableEq, Repr

/-- Where a request came from (R2). -/
inductive Origin where
  | panelA | panelB | desk
deriving DecidableEq, Repr

/-- The microphones an entry is sung on (R2). -/
inductive MicMode where
  | soloA | soloB | duet
deriving DecidableEq, Repr

/-- Which singer a line or note belongs to (R56, R59). -/
inductive Part where
  | part1 | part2 | both
deriving DecidableEq, Repr

/-- How a finished entry ended (R89, R161). -/
inductive SongOutcome where
  | completed | skipped | stopped | mediaLost | noStart | noStage
deriving DecidableEq, Repr

/-! ## The queue controller (chapter 1) -/

/-- One song request (R2).  The entry id is 0 in a finished current entry only (R68). -/
structure Entry where
  id : Nat
  song : Nat
  singer : Nat
  origin : Origin
  priority : Bool
  micMode : MicMode
  keyShift : Int
  arrival : Nat
deriving DecidableEq, Repr

/-- The room queue, the allocator, the arrival count and the room account (R1 to R4, R18, R20, R22, R24). -/
structure RoomQueue where
  entries : List Entry
  lastId : Nat
  arrivals : Nat
  credits : Nat
  unlimited : Bool
  locked : Bool
  quota : Nat
  shortage : Bool
deriving DecidableEq, Repr

/-! ## The panel line units (chapter 2) -/

/-- The line rates (section 2.1). -/
inductive Rate where
  | r9600 | r19200 | r38400
deriving DecidableEq, Repr

/-- Whether the receiver waits for the line to be high or watches for a falling edge (R25, R26). -/
inductive Receiver where
  | waitHigh | watching
deriving DecidableEq, Repr

/-- The six states of a frame assembler with what is stored in each (R28).  `sum` is the frame sum so far. -/
inductive Assembler where
  | outside
  | awaitLead
  | awaitKind
  | awaitLength (kind sum : Byte)
  | payload (kind : Byte) (length : Nat) (stored : List Byte) (sum : Byte)
  | awaitCheck (kind : Byte) (stored : List Byte) (sum : Byte)
deriving DecidableEq, Repr

/-- The errors that end a frame (R30). -/
inductive FrameError where
  | parity | framing | lead | length | check | gap | cut
deriving DecidableEq, Repr

/-- The eight counters of a panel line (R31). -/
structure LineCounters where
  parity : Nat
  framing : Nat
  lead : Nat
  length : Nat
  check : Nat
  gap : Nat
  cut : Nat
  drop : Nat
deriving DecidableEq, Repr

/-- A reply frame's kind and payload (R34, section 11.3). -/
structure PanelReply where
  kind : Byte
  payload : List Byte
deriving DecidableEq, Repr

/-- The reply slot (R35). -/
inductive ReplySlot where
  | empty
  | reserved
  | full (reply : PanelReply)
deriving DecidableEq, Repr

/-- The reply frame in the shift and the rate it is sent at (R35, R36). -/
structure Sending where
  reply : PanelReply
  rate : Rate
deriving DecidableEq, Repr

/-- One panel line unit (R46).  `lineHigh` is the level on its receive input; `gapCounting` says that the gap count
runs (R29); `shift` is `none` while the shift is IDLE. -/
structure PanelUnit where
  lineHigh : Bool
  receiver : Receiver
  assembler : Assembler
  gapCounting : Bool
  slot : ReplySlot
  shift : Option Sending
  rate : Rate
  pendingRate : Option Rate
  counters : LineCounters
deriving DecidableEq, Repr

/-! ## The song store and the staging controller (chapter 3) -/

/-- One syllable: offset from the line's start, duration, glyph count (R56). -/
structure Syllable where
  offset : Nat
  duration : Nat
  glyphs : Nat
deriving DecidableEq, Repr

/-- A stored line record (R56, R58).  Its index is its place in the lyric track. -/
structure LyricLine where
  start : Nat
  part : Part
  override : Option Nat
  syllables : List Syllable
  glyphCodes : List (BitVec 16)
  endTime : Nat
deriving DecidableEq, Repr

/-- A stored note record (R59, R60).  Its index is its place in the note track. -/
structure NoteRecord where
  start : Nat
  duration : Nat
  number : Nat
  part : Part
  golden : Bool
deriving DecidableEq, Repr

/-- A bank header (R49). -/
structure BankHeader where
  entryId : Nat
  song : Nat
  step : Nat
  lines : Nat
  syllables : Nat
  glyphs : Nat
  notes : Nat
  length : Nat
deriving DecidableEq, Repr

/-- The stored counts of a bank (R48). -/
structure StoredCounts where
  lines : Nat
  syllables : Nat
  glyphs : Nat
  notes : Nat
deriving DecidableEq, Repr

/-- The track marks of a bank, in ms (R48). -/
structure TrackMarks where
  lastLineEnd : Nat
  lastNoteStart : Nat
  part1Reach : Nat
  part2Reach : Nat
deriving DecidableEq, Repr

/-- One bank of the song store (R48). -/
structure Bank where
  header : Option BankHeader
  lyrics : List LyricLine
  notes : List NoteRecord
  counts : StoredCounts
  marks : TrackMarks
deriving DecidableEq, Repr

/-- A cleared bank (R48). -/
def Bank.cleared : Bank :=
  { header := none, lyrics := [], notes := [], counts := ⟨0, 0, 0, 0⟩, marks := ⟨0, 0, 0, 0⟩ }

/-- The staging states (R50). -/
inductive StagingState where
  | empty | requested | loading | ready
deriving DecidableEq, Repr

/-- The two banks, which of them has the staging role, and the staging state and owner (R47, R50, R66). -/
structure SongStore where
  bank0 : Bank
  bank1 : Bank
  stagingIsBank0 : Bool
  state : StagingState
  owner : Option Nat
deriving DecidableEq, Repr

/-! ## The deck (chapter 4) -/

/-- The deck states (R67). -/
inductive DeckState where
  | idle | starting | playing | paused | stalled | stopping
deriving DecidableEq, Repr

/-- The deck (R67, R68, R75, R93).  The play clock is F, B, E of R75; a timer is `none` while disarmed and holds the
milliseconds left while armed. -/
structure Deck where
  state : DeckState
  current : Option Entry
  stopId : Nat
  reached : Bool
  floor : Nat
  lastMark : Nat
  elapsed : Nat
  startTimer : Option Nat
  stallTimer : Option Nat
  stallLimit : Option Nat
  stopTimer : Option Nat
deriving DecidableEq, Repr

/-- The kinds of a play-time advance (R76). -/
inductive AdvanceKind where
  | step | jump | rewind
deriving DecidableEq, Repr

/-- A play-time advance: its kind and the play time it carries (R76). -/
structure Advance where
  kind : AdvanceKind
  time : Nat
deriving DecidableEq, Repr

/-! ## The lyric sequencer (chapter 5) -/

/-- A scroll in flight: the leaving line and the scroll start (R94). -/
structure Scroll where
  line : Nat
  start : Nat
deriving DecidableEq, Repr

/-- A running countdown: its line and step (R94). -/
structure Countdown where
  line : Nat
  step : Nat
deriving DecidableEq, Repr

/-- The five lyric settings: rows, L, H, S and the gap threshold (R95). -/
structure LyricSettings where
  rows : Nat
  lead : Nat
  hold : Nat
  scroll : Nat
  gap : Nat
deriving DecidableEq, Repr

/-- The lyric sequencer (R94), with the advances the deck has handed it and it has not yet taken, oldest first (R76). -/
structure Sequencer where
  window : List Nat
  cursor : Nat
  scroll : Option Scroll
  countdown : Option Countdown
  search : Nat
  forced : Nat
  settings : LyricSettings
  inbox : List Advance
deriving DecidableEq, Repr

/-! ## The microphone front end (chapter 6) -/

/-- Whether the front end scans and takes edges (R122). -/
inductive Activity where
  | on | off | settling
deriving DecidableEq, Repr

/-- One microphone's front end state (R122). -/
structure MicState where
  gateOpen : Bool
  openRun : Nat
  closeRun : Nat
  lastEdge : Bool
  counter : Nat
  previous : Option Nat
deriving DecidableEq, Repr

/-- The microphone front end (R122, R123, R137).  `conversion` is the microphone whose conversion is in flight, and
`scanTicks` the millisecond ticks left to the next scan. -/
structure FrontEnd where
  activity : Activity
  settleTimer : Option Nat
  scanTicks : Nat
  conversion : Option Mic
  micA : MicState
  micB : MicState
deriving DecidableEq, Repr

/-! ## The pitch grader (chapter 7) -/

/-- The grader's mode (R139). -/
inductive GraderMode where
  | noSong | following | final
deriving DecidableEq, Repr

/-- The part sets a microphone can be graded against (R139): the part named, and BOTH. -/
inductive PartSet where
  | part1 | part2
deriving DecidableEq, Repr

/-- The grade of a sample, NONE where no sample has been graded (R139, R146). -/
inductive Grade where
  | none | exact | close | miss
deriving DecidableEq, Repr

/-- Which way a sample leans (R139, R146). -/
inductive Lean where
  | centre | flat | sharp
deriving DecidableEq, Repr

/-- The live indicator of a microphone (R139). -/
structure LiveIndicator where
  grade : Grade
  lean : Lean
deriving DecidableEq, Repr

/-- The open-note record (R139). -/
structure OpenNote where
  index : Nat
  start : Nat
  duration : Nat
  golden : Bool
  target : Nat
  period : Nat
  exact : Nat
  close : Nat
  miss : Nat
deriving DecidableEq, Repr

/-- One microphone's grading state (R139).  `parts` is `none` while the microphone is not scored; `total` is S and
`weight` is W. -/
structure MicGrade where
  parts : Option PartSet
  cursor : Nat
  openNote : Option OpenNote
  live : LiveIndicator
  total : Nat
  weight : Nat
  judged : Nat
  sung : Nat
  onPitch : Nat
deriving DecidableEq, Repr

/-- The counts of a microphone in a final report (R152). -/
structure NoteCounts where
  judged : Nat
  sung : Nat
  onPitch : Nat
deriving DecidableEq, Repr

/-- The grader's final report (R152). -/
structure FinalReport where
  scoreA : Option Nat
  scoreB : Option Nat
  entryScore : Option Nat
  countsA : Option NoteCounts
  countsB : Option NoteCounts
  invalid : Bool
deriving DecidableEq, Repr

/-- The pitch grader (R139, R160), with the report it holds in FINAL and the advances the deck has handed it and it has
not yet taken, oldest first (R76). -/
structure Grader where
  mode : GraderMode
  invalid : Bool
  micA : MicGrade
  micB : MicGrade
  report : Option FinalReport
  inbox : List Advance
deriving DecidableEq, Repr

/-! ## The results store (chapter 8) -/

/-- A history record (R161). -/
structure HistoryRecord where
  id : Nat
  song : Nat
  singer : Nat
  origin : Origin
  priority : Bool
  micMode : MicMode
  keyShift : Int
  outcome : SongOutcome
  scoreA : Option Nat
  scoreB : Option Nat
  entryScore : Option Nat
  invalid : Bool
  countsA : Option NoteCounts
  countsB : Option NoteCounts
  duration : Nat
  finish : Nat
deriving DecidableEq, Repr

/-- A session board record (R165). -/
structure BoardRecord where
  score : Nat
  song : Nat
  singer : Nat
  origin : Origin
  micMode : MicMode
  id : Nat
  finish : Nat
deriving DecidableEq, Repr

/-- The results store (R163, R166, R172): history newest first, board best first, and the session song counter. -/
structure Results where
  history : List HistoryRecord
  board : List BoardRecord
  counter : Nat
deriving DecidableEq, Repr

/-! ## The media port (chapter 9) -/

/-- The port's transaction states (R174). -/
inductive PortState where
  | waitHigh | unselected | command | answer | trailing
deriving DecidableEq, Repr

/-- A result code and the payload that goes with it: a media port answer (R173, R179), and what a block returns to the
line a request came on. -/
structure Answer where
  code : ResultCode
  payload : List Byte
deriving DecidableEq, Repr

/-- The play orders of the directive (R180). -/
inductive PlayOrder where
  | none | play | pause | stop
deriving DecidableEq, Repr

/-- The stage orders of the directive (R180). -/
inductive StageOrder where
  | none | load
deriving DecidableEq, Repr

/-- The posted fields of the directive record (R180). -/
structure DirectiveFields where
  playOrder : PlayOrder
  playId : Nat
  playSong : Nat
  keyShift : Int
  stageOrder : StageOrder
  stageId : Nat
  stageSong : Nat
deriving DecidableEq, Repr

/-- The media port (R174, R175, R179 to R181, R186).  `selectHigh` is the level of MSN; `firstByte` is the byte made
ready for MDO at the last fall of MSN, `none` while MDO is released; `place` is how many bytes MDO has carried whole in the
present state, while that is COMMAND or ANSWER. -/
structure MediaPort where
  selectHigh : Bool
  state : PortState
  firstByte : Option Byte
  place : Nat
  directive : DirectiveFields
  changeCount : Nat
  ackCount : Nat
  lastAnswer : Answer
deriving DecidableEq, Repr

/-! ## The desk line unit (chapter 10) -/

/-- The desk bus states (R187). -/
inductive BusState where
  | idle | writing | reading
deriving DecidableEq, Repr

/-- Ten Booleans, one for each event flag: the flags set, or the event mask (R192, R193). -/
structure EventFlags where
  resetSeen : Bool
  songDone : Bool
  boardChanged : Bool
  creditsOut : Bool
  stall : Bool
  mediaLost : Bool
  lineFault : Bool
  deskTimeout : Bool
  woke : Bool
  queueChanged : Bool
deriving DecidableEq, Repr

/-- The desk reply record: code, kind answered and payload (R190). -/
structure DeskReply where
  code : ResultCode
  kind : Byte
  payload : List Byte
deriving DecidableEq, Repr

/-- The configuration set but for the panel quota, which the room account holds (R194). -/
structure Settings where
  lyric : LyricSettings
  openThreshold : Nat
  closeThreshold : Nat
  baud : Rate
  skipAllowed : Bool
  wakeOnPanel : Bool
deriving DecidableEq, Repr

/-- The desk line unit (R204).  `busTimer` holds the milliseconds left of the bus timeout while it is counted. -/
structure DeskUnit where
  bus : BusState
  busAddress : Nat
  busTimer : Option Nat
  reply : Option DeskReply
  flags : EventFlags
  mask : EventFlags
  settings : Settings
  standby : Bool
deriving DecidableEq, Repr

/-! ## Reset (R198) -/

/-- The reset causes (0.8). -/
inductive ResetCause where
  | powerOn | lowSupply | resetPin | deskReset
deriving DecidableEq, Repr

/-- What keeps the controller in reset (R198): whether it is in reset, the recorded cause, whether the supply is valid,
whether RSTN is held low, whether a start-up hold is running or waits for the supply, and whether POWER_ON began it.
`holdTimer` holds the millisecond ticks left of a hold while it is counted. -/
structure ResetUnit where
  inReset : Bool
  cause : ResetCause
  supplyValid : Bool
  pinHeld : Bool
  startupHold : Bool
  holdFromPowerOn : Bool
  holdTimer : Option Nat
deriving DecidableEq, Repr

/-! ## The controller -/

/-- The controller's state, block by block, and the commands that wait, first in first out. -/
structure State where
  pending : List Instr
  room : RoomQueue
  panelA : PanelUnit
  panelB : PanelUnit
  store : SongStore
  deck : Deck
  lyric : Sequencer
  front : FrontEnd
  grader : Grader
  results : Results
  port : MediaPort
  desk : DeskUnit
  resetUnit : ResetUnit
deriving DecidableEq, Repr

/-- The reasons the controller stops with a fault: none.  No rule of the spec makes a command stop the machine, so this
closed inductive has no constructor and nothing raises it. -/
inductive Fault where
deriving DecidableEq, Repr

/-- The reasons a command has no meaning. -/
inductive Refusal where
  /-- Raised by `exec` for a row of spec/opcode_table.json that has no meaning yet, by name; safe, since nothing can be
  proved of a state it does not reach.  Every row has its meaning, so no arm raises it. -/
  | notModelled (mnemonic : String)
deriving DecidableEq, Repr

namespace State

/-! ## One update for each block -/

def setPending (s : State) (v : List Instr) : State := { s with pending := v }
def setRoom (s : State) (v : RoomQueue) : State := { s with room := v }
def setPanelA (s : State) (v : PanelUnit) : State := { s with panelA := v }
def setPanelB (s : State) (v : PanelUnit) : State := { s with panelB := v }
def setStore (s : State) (v : SongStore) : State := { s with store := v }
def setDeck (s : State) (v : Deck) : State := { s with deck := v }
def setLyric (s : State) (v : Sequencer) : State := { s with lyric := v }
def setFront (s : State) (v : FrontEnd) : State := { s with front := v }
def setGrader (s : State) (v : Grader) : State := { s with grader := v }
def setResults (s : State) (v : Results) : State := { s with results := v }
def setPort (s : State) (v : MediaPort) : State := { s with port := v }
def setDesk (s : State) (v : DeskUnit) : State := { s with desk := v }
def setResetUnit (s : State) (v : ResetUnit) : State := { s with resetUnit := v }

end State

/-! ## Reset values -/

/-- The queue controller after reset (R24). -/
def RoomQueue.atReset : RoomQueue :=
  { entries := [], lastId := 0, arrivals := 0, credits := 0, unlimited := false, locked := true, quota := 8,
    shortage := false }

/-- Counters at 0 (R31, R46). -/
def LineCounters.zero : LineCounters := ⟨0, 0, 0, 0, 0, 0, 0, 0⟩

/-- A panel line unit after reset (R46), with the level its receive input then has. -/
def PanelUnit.atReset (lineHigh : Bool) : PanelUnit :=
  { lineHigh := lineHigh, receiver := .waitHigh, assembler := .outside, gapCounting := false, slot := .empty,
    shift := none, rate := .r19200, pendingRate := none, counters := LineCounters.zero }

/-- The song store and the staging controller after reset (R66). -/
def SongStore.atReset : SongStore :=
  { bank0 := Bank.cleared, bank1 := Bank.cleared, stagingIsBank0 := true, state := .empty, owner := none }

/-- The deck after reset (R93). -/
def Deck.atReset : Deck :=
  { state := .idle, current := none, stopId := 0, reached := false, floor := 0, lastMark := 0, elapsed := 0,
    startTimer := none, stallTimer := none, stallLimit := none, stopTimer := none }

/-- The default lyric settings (R95, R120, R194). -/
def LyricSettings.default : LyricSettings := { rows := 2, lead := 2500, hold := 300, scroll := 400, gap := 4000 }

/-- The lyric sequencer after reset (R120). -/
def Sequencer.atReset : Sequencer :=
  { window := [], cursor := 0, scroll := none, countdown := none, search := 0, forced := 0,
    settings := LyricSettings.default, inbox := [] }

/-- A microphone with its gate closed, no reference and no previous interval (R125, R135, R137). -/
def MicState.closed : MicState :=
  { gateOpen := false, openRun := 0, closeRun := 0, lastEdge := false, counter := 0, previous := none }

/-- The microphone front end after reset (R123, R137). -/
def FrontEnd.atReset : FrontEnd :=
  { activity := .on, settleTimer := none, scanTicks := 2, conversion := none, micA := MicState.closed,
    micB := MicState.closed }

/-- The live indicator NONE, CENTRE (R139). -/
def LiveIndicator.off : LiveIndicator := ⟨.none, .centre⟩

/-- A microphone that is not scored (R140, R158, R160). -/
def MicGrade.unscored : MicGrade :=
  { parts := none, cursor := 0, openNote := none, live := LiveIndicator.off, total := 0, weight := 0, judged := 0,
    sung := 0, onPitch := 0 }

/-- The pitch grader after reset (R160). -/
def Grader.atReset : Grader :=
  { mode := .noSong, invalid := false, micA := MicGrade.unscored, micB := MicGrade.unscored, report := none,
    inbox := [] }

/-- The results store after reset (R172). -/
def Results.atReset : Results := { history := [], board := [], counter := 0 }

/-- The directive fields after reset (R66, R93, R186). -/
def DirectiveFields.blank : DirectiveFields :=
  { playOrder := .none, playId := 0, playSong := 0, keyShift := 0, stageOrder := .none, stageId := 0, stageSong := 0 }

/-- The media port after reset (R186), with the level MSN then has. -/
def MediaPort.atReset (selectHigh : Bool) : MediaPort :=
  { selectHigh := selectHigh, state := .waitHigh, firstByte := none, place := 0,
    directive := DirectiveFields.blank, changeCount := 0, ackCount := 0, lastAnswer := ⟨.nothing, []⟩ }

/-- No flag set, or none enabled. -/
def EventFlags.clear : EventFlags :=
  ⟨false, false, false, false, false, false, false, false, false, false⟩

/-- Every flag enabled (R204). -/
def EventFlags.all : EventFlags := ⟨true, true, true, true, true, true, true, true, true, true⟩

/-- The configuration defaults (R194). -/
def Settings.default : Settings :=
  { lyric := LyricSettings.default, openThreshold := 96, closeThreshold := 64, baud := .r19200, skipAllowed := true,
    wakeOnPanel := true }

/-- The desk line unit after reset (R204), with the address the pins give (R187). -/
def DeskUnit.atReset (busAddress : Nat) : DeskUnit :=
  { bus := .idle, busAddress := busAddress, busTimer := none, reply := none,
    flags := { EventFlags.clear with resetSeen := true }, mask := EventFlags.all, settings := Settings.default,
    standby := false }

/-- The reset unit when the controller has left a reset of cause `cause` (R198). -/
def ResetUnit.released (cause : ResetCause) : ResetUnit :=
  { inReset := false, cause := cause, supplyValid := true, pinHeld := false, startupHold := false,
    holdFromPowerOn := false, holdTimer := none }

/-- The controller as it leaves a power-on reset (R198): every block at the reset values of its chapter.  What no rule
gives (the input levels and the address-select pins) is in log entry 1. -/
def State.reset : State :=
  { pending := [], room := RoomQueue.atReset, panelA := PanelUnit.atReset true, panelB := PanelUnit.atReset true,
    store := SongStore.atReset, deck := Deck.atReset, lyric := Sequencer.atReset, front := FrontEnd.atReset,
    grader := Grader.atReset, results := Results.atReset, port := MediaPort.atReset true,
    desk := DeskUnit.atReset Config.busAddressBase, resetUnit := ResetUnit.released .powerOn }

end Sys2Proof.Machine
end

