-- ==== Sys2Proof/Machine/Layout.lean ====
section
/-! DEFINITION. Field coding and value codes (R205, sections 11.1 and 11.2), and the frames that carry a reply on each
line (R36, R173, R190). -/

namespace Sys2Proof.Machine

/-! ## Fields of one, two and three bytes (R205) -/

/-- One byte holding `n`. -/
def byteOf (n : Nat) : Byte := BitVec.ofNat 8 n

/-- A two-byte field, most significant byte first. -/
def field2 (n : Nat) : List Byte := [byteOf (n / 256), byteOf n]

/-- A three-byte field, most significant byte first. -/
def field3 (n : Nat) : List Byte := [byteOf (n / 65536), byteOf (n / 256), byteOf n]

/-- The unsigned value of a field as it is received, most significant byte first. -/
def valueOf (bytes : List Byte) : Nat := bytes.foldl (fun n b => n * 256 + b.toNat) 0

/-- The byte at an offset of a payload; an offset beyond the payload reads 0. -/
def byteAt (payload : List Byte) (offset : Nat) : Byte := payload.getD offset 0#8

/-- The unsigned value of the `size` bytes at an offset of a payload. -/
def fieldAt (payload : List Byte) (offset size : Nat) : Nat := valueOf ((payload.drop offset).take size)

/-- A signed value as a two's complement byte. -/
def signedByte (v : Int) : Byte := BitVec.ofInt 8 v

/-- The signed value of a two's complement byte. -/
def signedOf (b : Byte) : Int := b.toInt

/-- 1 for yes and 0 for no. -/
def yesNo (b : Bool) : Byte := if b then 1#8 else 0#8

/-- No for 0 and yes for any other value. -/
def isYes (b : Byte) : Bool := b != 0#8

/-- An optional score or count of two bytes, 65,535 when it is absent. -/
def optional2 (v : Option Nat) : List Byte := field2 (v.getD 65535)

/-- A value limited to the range from `low` to `high` (0.5). -/
def clamp (v low high : Nat) : Nat := min (max v low) high

/-- A key shift limited to −6 to +6 (R2, R85). -/
def clampKey (v : Int) : Int := max (-6) (min 6 v)

/-- The sum modulo 256 of bytes. -/
def byteSum (bytes : List Byte) : Byte := bytes.foldl (· + ·) 0#8

/-! ## Value codes (section 11.2) -/

def ResultCode.code : ResultCode → Byte
  | .ok => 0#8 | .full => 1#8 | .quota => 2#8 | .locked => 3#8 | .notFound => 4#8 | .notYours => 5#8
  | .notPlaying => 6#8 | .notPaused => 7#8 | .noSkip => 8#8 | .stale => 9#8 | .badField => 10#8 | .badKind => 11#8
  | .busy => 12#8 | .standby => 13#8 | .order => 14#8 | .countMismatch => 15#8 | .tooLarge => 16#8
  | .notLoading => 17#8 | .nothing => 18#8

def MicMode.code : MicMode → Byte
  | .soloA => 1#8 | .soloB => 2#8 | .duet => 3#8

/-- The mic mode of a code; no other byte names one (R205). -/
def micModeOf (b : Byte) : Option MicMode :=
  if b = 1#8 then some .soloA else if b = 2#8 then some .soloB else if b = 3#8 then some .duet else none

def Origin.code : Origin → Byte
  | .panelA => 1#8 | .panelB => 2#8 | .desk => 3#8

def Part.code : Part → Byte
  | .part1 => 1#8 | .part2 => 2#8 | .both => 3#8

/-- The part of a code; no other byte names one (R205). -/
def partOf (b : Byte) : Option Part :=
  if b = 1#8 then some .part1 else if b = 2#8 then some .part2 else if b = 3#8 then some .both else none

def DeckState.code : DeckState → Byte
  | .idle => 0#8 | .starting => 1#8 | .playing => 2#8 | .paused => 3#8 | .stalled => 4#8 | .stopping => 5#8

def StagingState.code : StagingState → Byte
  | .empty => 0#8 | .requested => 1#8 | .loading => 2#8 | .ready => 3#8

def SongOutcome.code : SongOutcome → Byte
  | .completed => 1#8 | .skipped => 2#8 | .stopped => 3#8 | .mediaLost => 4#8 | .noStart => 5#8 | .noStage => 6#8

def PlayOrder.code : PlayOrder → Byte
  | .none => 0#8 | .play => 1#8 | .pause => 2#8 | .stop => 3#8

def StageOrder.code : StageOrder → Byte
  | .none => 0#8 | .load => 1#8

def Grade.code : Grade → Byte
  | .none => 0#8 | .exact => 1#8 | .close => 2#8 | .miss => 3#8

def Lean.code : Lean → Byte
  | .centre => 0#8 | .flat => 1#8 | .sharp => 2#8

def ResetCause.code : ResetCause → Byte
  | .powerOn => 1#8 | .lowSupply => 2#8 | .resetPin => 3#8 | .deskReset => 4#8

/-- The rate in baud (section 2.1). -/
def Rate.baud : Rate → Nat
  | .r9600 => 9600 | .r19200 => 19200 | .r38400 => 38400

/-- Crystal cycles of one sixteenth of a bit, the receiver's sampling period (R25). -/
def Rate.sampleCycles : Rate → Nat
  | .r9600 => 104 | .r19200 => 52 | .r38400 => 26

/-- Crystal cycles of one bit time (R25). -/
def Rate.bitCycles (r : Rate) : Nat := 16 * r.sampleCycles

/-! ## Replies as they go out -/

/-- The bytes of a reply frame after its break: lead, kind, length, payload, and a check that brings the frame sum to 0
(R36). -/
def PanelReply.frame (r : PanelReply) : List Byte :=
  let body := r.kind :: byteOf r.payload.length :: r.payload
  Config.leadByte :: body ++ [0#8 - byteSum body]

/-- The bit times of a reply frame: a break of 13, 2 high, and 11 for each character (R36). -/
def PanelReply.bitTimes (r : PanelReply) : Nat := 13 + 2 + 11 * (r.payload.length + 4)

/-- The bytes of a media port answer: code, length, payload, and a check that brings their sum to 0 (R173). -/
def Answer.bytes (a : Answer) : List Byte :=
  let body := a.code.code :: field2 a.payload.length ++ a.payload
  body ++ [0#8 - byteSum body]

/-- The bytes of the desk reply record; NOTHING, 0, 0 while none is held (R190, section 11.5). -/
def deskRecord (reply : Option DeskReply) : List Byte :=
  match reply with
  | none => [ResultCode.nothing.code, 0#8, 0#8]
  | some r => r.code.code :: r.kind :: byteOf r.payload.length :: r.payload

/-- What the desk reads at place `n` of a read transaction; beyond the record it reads 0 (R190). -/
def deskReadByte (reply : Option DeskReply) (n : Nat) : Byte := (deskRecord reply).getD n 0#8

/-- An answer with no payload. -/
def Answer.bare (code : ResultCode) : Answer := ⟨code, []⟩

end Sys2Proof.Machine
end

