-- ==== Sys2Proof/Machine/Operands.lean ====
section
/-! DEFINITION. What the bytes and samples of a command say: a received character (R25, R26), the records of the media
port (section 11.4) and the fields of panel requests and desk commands (sections 11.3 and 11.5). -/

namespace Sys2Proof.Machine

/-! ## A received character -/

/-- The value of each of the eleven bits: the majority of its three samples (R25). -/
def majority (x y z : BitVec 11) : BitVec 11 := (x &&& y) ||| (x &&& z) ||| (y &&& z)

/-- What the receiver makes of a character: a false start, a good character, or one in error (R25, R26). -/
inductive Received where
  | falseStart
  | good (value : Byte)
  | parity
  | framing
deriving DecidableEq, Repr

/-- Whether the eight data bits and the parity bit hold an even number of ones (section 2.1). -/
def evenParity (data : Byte) (parity : Bool) : Bool :=
  (List.range 8).foldl (fun p i => xor p (data.getLsbD i)) parity == false

/-- The outcome of a character from its bits: a high start bit is a false start (R25); a low stop bit is FRAMING whatever
the parity; a high one is good or PARITY (R26). -/
def receivedOf (bits : BitVec 11) : Received :=
  if bits.getLsbD 0 then .falseStart
  else if !bits.getLsbD 10 then .framing
  else if evenParity (bits.extractLsb' 1 8) (bits.getLsbD 9) then .good (bits.extractLsb' 1 8)
  else .parity

/-! ## Submissions -/

/-- The fields of a submission as they are carried (section 11.3). -/
structure SongRequest where
  song : Nat
  singer : Nat
  mode : Option MicMode
  key : Int
deriving DecidableEq, Repr

/-- The six bytes of ASK SONG and INSERT PRIORITY (R37, section 11.5). -/
def songRequestOf (p : List Byte) : SongRequest :=
  { song := fieldAt p 0 3, singer := (byteAt p 3).toNat, mode := micModeOf (byteAt p 4), key := signedOf (byteAt p 5) }

/-! ## Stage records and time marks (section 11.4) -/

/-- The header a STAGE OPEN carries; its entry id is byte 0 (R49, R54). -/
def headerOf (p : List Byte) : BankHeader :=
  { entryId := (byteAt p 0).toNat, song := fieldAt p 1 3, step := fieldAt p 4 2, lines := fieldAt p 6 2,
    syllables := fieldAt p 8 2, glyphs := fieldAt p 10 2, notes := fieldAt p 12 2, length := fieldAt p 14 3 }

/-- A LINE record as it is carried (R56). -/
structure LineFields where
  entryId : Nat
  index : Nat
  start : Nat
  part : Option Part
  override : Option Nat
  syllables : List Syllable
  glyphCodes : List (BitVec 16)
deriving DecidableEq, Repr

/-- The `k`th syllable record of a LINE (section 11.4). -/
def syllableAt (p : List Byte) (k : Nat) : Syllable :=
  { offset := fieldAt p (9 + 6 * k) 3, duration := fieldAt p (9 + 6 * k + 3) 2,
    glyphs := (byteAt p (9 + 6 * k + 5)).toNat }

/-- The offset at which the glyph codes of a LINE begin. -/
def glyphBase (p : List Byte) : Nat := 9 + 6 * (byteAt p 8).toNat

/-- The syllable records a LINE declares. -/
def syllablesOf (p : List Byte) : List Syllable := (List.range (byteAt p 8).toNat).map (syllableAt p)

/-- The glyph count of syllables. -/
def glyphTotal (ys : List Syllable) : Nat := (ys.map (·.glyphs)).sum

/-- The LINE record of a payload; an override of 0 is absent (R205). -/
def lineFieldsOf (p : List Byte) : LineFields :=
  { entryId := (byteAt p 0).toNat, index := (byteAt p 1).toNat, start := fieldAt p 2 3, part := partOf (byteAt p 5),
    override := if fieldAt p 6 2 = 0 then none else some (fieldAt p 6 2), syllables := syllablesOf p,
    glyphCodes := (List.range ((p.length - glyphBase p) / 2)).map
      fun k => BitVec.ofNat 16 (fieldAt p (glyphBase p + 2 * k) 2) }

/-- The length a LINE payload implies, absent when it ends before its syllable count or its last syllable record
(R176). -/
def impliedLineLength (p : List Byte) : Option Nat :=
  if p.length < 9 ∨ p.length < glyphBase p then none else some (glyphBase p + 2 * glyphTotal (syllablesOf p))

/-- A NOTE record as it is carried (R59). -/
structure NoteFields where
  entryId : Nat
  index : Nat
  start : Nat
  duration : Nat
  number : Nat
  part : Option Part
  golden : Bool
deriving DecidableEq, Repr

/-- The NOTE record of a payload. -/
def noteFieldsOf (p : List Byte) : NoteFields :=
  { entryId := (byteAt p 0).toNat, index := fieldAt p 1 2, start := fieldAt p 3 3, duration := fieldAt p 6 2,
    number := (byteAt p 8).toNat, part := partOf (byteAt p 9), golden := isYes (byteAt p 10) }

/-- The kinds of a time mark (R79, section 11.2). -/
inductive MarkKind where
  | run
  | finish
deriving DecidableEq, Repr

/-- The mark kind of a code: RUN 1, END 2; no other byte names one. -/
def markKindOf (b : Byte) : Option MarkKind :=
  if b = 1#8 then some .run else if b = 2#8 then some .finish else none

/-! ## Payload lengths (sections 11.3, 11.4 and 11.5) -/

/-- The kinds of panel requests (section 11.3). -/
inductive PanelKind where
  | askSong | dropEntry | shiftEntry | skipNow | hold | go | key | peekQueue | peekNow | peekPast
deriving DecidableEq, Repr

def PanelKind.code : PanelKind → Byte
  | .askSong => 0x10#8 | .dropEntry => 0x11#8 | .shiftEntry => 0x12#8 | .skipNow => 0x13#8 | .hold => 0x14#8
  | .go => 0x15#8 | .key => 0x16#8 | .peekQueue => 0x17#8 | .peekNow => 0x18#8 | .peekPast => 0x19#8

def PanelKind.all : List PanelKind :=
  [.askSong, .dropEntry, .shiftEntry, .skipNow, .hold, .go, .key, .peekQueue, .peekNow, .peekPast]

/-- The request kind a kind byte names, if any (R32). -/
def panelKindOf (b : Byte) : Option PanelKind := PanelKind.all.find? fun k => k.code == b

/-- The payload length a request kind requires (R32, section 2.5). -/
def PanelKind.length : PanelKind → Nat
  | .askSong => 6 | .dropEntry => 1 | .shiftEntry => 2 | .skipNow => 1 | .hold => 0 | .go => 0 | .key => 1
  | .peekQueue => 1 | .peekNow => 0 | .peekPast => 1

/-- The kinds of media port commands (R177, section 11.4). -/
inductive MediaKind where
  | stageOpen | line | note | stageClose | stageFail | timeMark | readDirective | ackDirective | readScene
  | repeatAnswer
deriving DecidableEq, Repr

def MediaKind.code : MediaKind → Byte
  | .stageOpen => 0x01#8 | .line => 0x02#8 | .note => 0x03#8 | .stageClose => 0x04#8 | .stageFail => 0x05#8
  | .timeMark => 0x06#8 | .readDirective => 0x07#8 | .ackDirective => 0x08#8 | .readScene => 0x09#8
  | .repeatAnswer => 0x0A#8

def MediaKind.all : List MediaKind :=
  [.stageOpen, .line, .note, .stageClose, .stageFail, .timeMark, .readDirective, .ackDirective, .readScene,
    .repeatAnswer]

/-- The command kind a kind byte names, if any (R176). -/
def mediaKindOf (b : Byte) : Option MediaKind := MediaKind.all.find? fun k => k.code == b

/-- Whether a payload has the length its kind requires; a LINE's is the one it implies (R176). -/
def MediaKind.lengthFits (k : MediaKind) (p : List Byte) : Bool :=
  match k with
  | .stageOpen => p.length == 17
  | .line => impliedLineLength p == some p.length
  | .note => p.length == 11
  | .stageClose => p.length == 1
  | .stageFail => p.length == 2
  | .timeMark => p.length == 5
  | .readDirective => p.length == 0
  | .ackDirective => p.length == 1
  | .readScene => p.length == 0
  | .repeatAnswer => p.length == 0

/-- The kinds of desk commands (section 11.5). -/
inductive DeskKind where
  | status | readEvents | ackEvents | eventMask | creditsSet | creditsAdd | creditsUnlimited | lock | unlock
  | configSet | configRead | insertPriority | promote | move | remove | stopSong | readQueue | readHistory | readBoard
  | readLineCounters | newSession | roomClear | standby | wake | deskReset
deriving DecidableEq, Repr

def DeskKind.code : DeskKind → Byte
  | .status => 0x40#8 | .readEvents => 0x41#8 | .ackEvents => 0x42#8 | .eventMask => 0x43#8 | .creditsSet => 0x44#8
  | .creditsAdd => 0x45#8 | .creditsUnlimited => 0x46#8 | .lock => 0x47#8 | .unlock => 0x48#8 | .configSet => 0x49#8
  | .configRead => 0x4A#8 | .insertPriority => 0x4B#8 | .promote => 0x4C#8 | .move => 0x4D#8 | .remove => 0x4E#8
  | .stopSong => 0x4F#8 | .readQueue => 0x50#8 | .readHistory => 0x51#8 | .readBoard => 0x52#8
  | .readLineCounters => 0x53#8 | .newSession => 0x54#8 | .roomClear => 0x55#8 | .standby => 0x56#8 | .wake => 0x57#8
  | .deskReset => 0x58#8

def DeskKind.all : List DeskKind :=
  [.status, .readEvents, .ackEvents, .eventMask, .creditsSet, .creditsAdd, .creditsUnlimited, .lock, .unlock,
    .configSet, .configRead, .insertPriority, .promote, .move, .remove, .stopSong, .readQueue, .readHistory, .readBoard,
    .readLineCounters, .newSession, .roomClear, .standby, .wake, .deskReset]

/-- The desk command a kind byte names, if any (R189). -/
def deskKindOf (b : Byte) : Option DeskKind := DeskKind.all.find? fun k => k.code == b

/-- The field bytes a desk command requires (R189, section 11.5). -/
def DeskKind.length : DeskKind → Nat
  | .ackEvents => 2 | .eventMask => 2 | .creditsSet => 2 | .creditsAdd => 2 | .creditsUnlimited => 1 | .configSet => 3
  | .insertPriority => 6 | .promote => 1 | .move => 2 | .remove => 1 | .readQueue => 1 | .readHistory => 1
  | .readLineCounters => 1
  | .status => 0 | .readEvents => 0 | .lock => 0 | .unlock => 0 | .configRead => 0 | .stopSong => 0 | .readBoard => 0
  | .newSession => 0 | .roomClear => 0 | .standby => 0 | .wake => 0 | .deskReset => 0

/-! ## The configuration items (R194, section 11.5) -/

/-- The eleven configuration items. -/
inductive ConfigItem where
  | rows | lead | hold | scroll | gap | openThreshold | closeThreshold | baud | skipAllowed | wakeOnPanel | quota
deriving DecidableEq, Repr

def ConfigItem.code : ConfigItem → Byte
  | .rows => 1#8 | .lead => 2#8 | .hold => 3#8 | .scroll => 4#8 | .gap => 5#8 | .openThreshold => 6#8
  | .closeThreshold => 7#8 | .baud => 8#8 | .skipAllowed => 9#8 | .wakeOnPanel => 10#8 | .quota => 11#8

/-- The items in item order (CONFIG READ, section 11.5). -/
def ConfigItem.all : List ConfigItem :=
  [.rows, .lead, .hold, .scroll, .gap, .openThreshold, .closeThreshold, .baud, .skipAllowed, .wakeOnPanel, .quota]

/-- The item an item code names, if any (R194). -/
def configItemOf (b : Byte) : Option ConfigItem := ConfigItem.all.find? fun k => k.code == b

/-- The rate a requested baud is taken as: the nearest, and the higher of two equally near (R195). -/
def rateOf (v : Nat) : Rate := if v < 14400 then .r9600 else if v < 28800 then .r19200 else .r38400

end Sys2Proof.Machine
end

