-- ==== Sys2Proof/Machine/Deck.lean ====
section
/-! DEFINITION. The deck's own operations: the play clock, the marks, hold and go, the timers, and the entry it holds
(chapter 4).  Starting, finalising and what the other blocks do are in `Ops.lean`. -/

namespace Sys2Proof.Machine

namespace Deck

/-! ## The play clock (R75) -/

/-- Play time: max(F, B + E), limited, in PLAYING; the frozen F otherwise (R75, R184). -/
def playTime (d : Deck) : Nat :=
  if d.state = .playing then min (max d.floor (d.lastMark + d.elapsed)) Config.maxPlayTime else d.floor

/-- Play time stored in F (R75). -/
def freeze (d : Deck) : Deck := { d with floor := d.playTime }

/-- Every timer disarmed. -/
def disarm (d : Deck) : Deck :=
  { d with startTimer := none, stallTimer := none, stallLimit := none, stopTimer := none }

/-- The kind of an advance that raises play time from `t` to `m` (R76). -/
def riseKind (t m : Nat) : AdvanceKind := if m - t > Config.jumpRise then .jump else .step

/-! ## Marks (R72, R77, R83) -/

/-- The first mark of an entry, at media time `m` (R72). -/
def firstMark (m : Nat) (d : Deck) : Deck :=
  { d.disarm with state := .playing, reached := true, floor := m, lastMark := m, elapsed := 0,
                  stallTimer := some Config.stallTime }

/-- The advance a RUN mark at `m` hands in PLAYING or STALLED (R77). -/
def markKind (m : Nat) (d : Deck) : AdvanceKind :=
  if d.playTime ≤ m then riseKind d.playTime m else if d.playTime - m ≤ Config.holdBack then .step else .rewind

/-- The floor after a RUN mark at `m` in PLAYING or STALLED: kept at play time by a hold, else `m` (R77). -/
def markFloor (m : Nat) (d : Deck) : Nat :=
  if m < d.playTime ∧ d.playTime - m ≤ Config.holdBack then d.playTime else m

/-- A RUN mark at `m` in PLAYING or STALLED: forward, hold or rewind, the stall timer re-armed (R77). -/
def runMark (m : Nat) (d : Deck) : Deck :=
  { d.disarm with state := .playing, floor := d.markFloor m, lastMark := m, elapsed := 0,
                  stallTimer := some Config.stallTime }

/-- A RUN mark in PAUSED moves B alone (R83). -/
def pausedMark (m : Nat) (d : Deck) : Deck := { d with lastMark := m }

/-! ## Hold, go and key (R82, R84, R85) -/

/-- HOLD (R82). -/
def holdNow (d : Deck) : Deck := { d.freeze.disarm with state := .paused }

/-- GO finds the play time more than 250 ms ahead of the last mark (R84, step 2). -/
def goRewinds (d : Deck) : Bool := decide (d.floor - d.lastMark > Config.holdBack)

/-- The floor after GO (R84, steps 2 and 3). -/
def goFloor (d : Deck) : Nat := if d.goRewinds then d.lastMark else max d.floor d.lastMark

/-- The kind of the advance a GO hands (R84). -/
def goKind (d : Deck) : AdvanceKind := if d.goRewinds then .rewind else riseKind d.floor d.goFloor

/-- GO (R84). -/
def goNow (d : Deck) : Deck :=
  { d.disarm with state := .playing, floor := d.goFloor, elapsed := 0, stallTimer := some Config.stallTime }

/-- The current entry's key shift; 0 when there is none. -/
def key (d : Deck) : Int :=
  match d.current with
  | none => 0
  | some e => e.keyShift

/-- KEY with a delta the line has clamped (R85). -/
def changeKey (delta : Int) (d : Deck) : Deck :=
  { d with current := d.current.map fun e => { e with keyShift := clampKey (e.keyShift + delta) } }

/-! ## Start and end (R68, R71, R88, R90) -/

/-- The deck at the start of entry `e` (R71, steps 1, 3, 4 and 6). -/
def startWith (e : Entry) (d : Deck) : Deck :=
  { d.disarm with state := .starting, current := some e, stopId := e.id, reached := false, floor := 0, lastMark := 0,
                  elapsed := 0, startTimer := some Config.startTime }

/-- The current entry becomes a finished entry: it carries no entry id (R68). -/
def finishEntry (d : Deck) : Deck := { d with current := d.current.map fun e => { e with id := 0 } }

/-- STOPPING with the stop timer armed and play time frozen (R73, R81, R88, R92). -/
def enterStopping (d : Deck) : Deck := { d.freeze.disarm with state := .stopping, stopTimer := some Config.stopTime }

/-- The return to IDLE (R68, R90). -/
def toIdle (_ : Deck) : Deck := Deck.atReset

/-! ## Ticks (R76, R80) -/

/-- One tick less on an armed timer; a timer that has run out waits for its expiry. -/
def countDown (timer : Option Nat) : Option Nat := timer.map (· - 1)

/-- A tick: every armed timer counts, and in PLAYING E counts to at most 500 (R76). -/
def tick (d : Deck) : Deck :=
  { d with
    elapsed := if d.state = .playing then min (d.elapsed + 1) Config.stallTime else d.elapsed
    startTimer := countDown d.startTimer
    stallTimer := countDown d.stallTimer
    stallLimit := countDown d.stallLimit
    stopTimer := countDown d.stopTimer }

/-- The stall timer of a playing deck has run out (R80). -/
def stallDue (d : Deck) : Bool := d.state == .playing && d.stallTimer == some 0

/-- The stall timer's expiry: play time frozen, STALLED, the stall-limit timer armed (R80). -/
def stall (d : Deck) : Deck := { d.freeze.disarm with state := .stalled, stallLimit := some Config.stallLimitTime }

/-- The deck snapshot: state, stop id, play time (R79, section 11.4). -/
def snapshot (d : Deck) : List Byte := d.state.code :: byteOf d.stopId :: field3 d.playTime

/-! ## The play fields of the directive (R69) -/

/-- The play order of a deck state. -/
def playOrder (d : Deck) : PlayOrder :=
  match d.state with
  | .idle => .none
  | .starting => .play
  | .playing => .play
  | .stalled => .play
  | .paused => .pause
  | .stopping => .stop

/-- The current entry's song number; 0 when there is none. -/
def song (d : Deck) : Nat :=
  match d.current with
  | none => 0
  | some e => e.song

end Deck

end Sys2Proof.Machine
end

