-- ==== Sys2Proof/Machine/Flags.lean ====
section
/-! DEFINITION. The event flags, the event mask, and what the outputs carry (R173 to R175, R181, R192, R193, R198, R205). -/

namespace Sys2Proof.Machine

/-- The ten event flags (R192). -/
inductive EventFlag where
  | resetSeen | songDone | boardChanged | creditsOut | stall | mediaLost | lineFault | deskTimeout | woke | queueChanged
deriving DecidableEq, Repr

/-- Whether a flag is in a set. -/
def EventFlags.has (w : EventFlags) : EventFlag → Bool
  | .resetSeen => w.resetSeen
  | .songDone => w.songDone
  | .boardChanged => w.boardChanged
  | .creditsOut => w.creditsOut
  | .stall => w.stall
  | .mediaLost => w.mediaLost
  | .lineFault => w.lineFault
  | .deskTimeout => w.deskTimeout
  | .woke => w.woke
  | .queueChanged => w.queueChanged

/-- The set with one flag set; a flag already set stays set (R192). -/
def EventFlags.raise (w : EventFlags) : EventFlag → EventFlags
  | .resetSeen => { w with resetSeen := true }
  | .songDone => { w with songDone := true }
  | .boardChanged => { w with boardChanged := true }
  | .creditsOut => { w with creditsOut := true }
  | .stall => { w with stall := true }
  | .mediaLost => { w with mediaLost := true }
  | .lineFault => { w with lineFault := true }
  | .deskTimeout => { w with deskTimeout := true }
  | .woke => { w with woke := true }
  | .queueChanged => { w with queueChanged := true }

/-- The set whose flags are those the function names. -/
def EventFlags.build (f : EventFlag → Bool) : EventFlags :=
  ⟨f .resetSeen, f .songDone, f .boardChanged, f .creditsOut, f .stall, f .mediaLost, f .lineFault, f .deskTimeout,
    f .woke, f .queueChanged⟩

/-- The flags of `w` that are not named by `names` (ACK EVENTS, R193). -/
def EventFlags.without (w names : EventFlags) : EventFlags :=
  EventFlags.build fun f => w.has f && !names.has f

/-- The bit of a flag in the two-byte word (R205). -/
def EventFlag.bit : EventFlag → Nat
  | .resetSeen => 0 | .songDone => 1 | .boardChanged => 2 | .creditsOut => 3 | .stall => 4 | .mediaLost => 5
  | .lineFault => 6 | .deskTimeout => 7 | .woke => 8 | .queueChanged => 9

/-- The set a received word names; bits 10 to 15 name no flag (R205). -/
def EventFlags.ofWord (word : Nat) : EventFlags := EventFlags.build fun f => word.testBit f.bit

/-- The flags in bit order. -/
def EventFlag.all : List EventFlag :=
  [.resetSeen, .songDone, .boardChanged, .creditsOut, .stall, .mediaLost, .lineFault, .deskTimeout, .woke,
    .queueChanged]

/-- The word that carries a set; bits 10 to 15 read 0 (R205). -/
def EventFlags.toWord (w : EventFlags) : Nat :=
  (EventFlag.all.map fun f => if w.has f then 2 ^ f.bit else 0).sum

/-- Whether some flag is set whose enable is set (R193). -/
def EventFlags.anyEnabled (w mask : EventFlags) : Bool := EventFlag.all.any fun f => w.has f && mask.has f

/-- What a selected media port drives on MDO: in COMMAND the byte made ready at the fall of MSN and then 0, in ANSWER the
answer's byte at its place, in TRAILING 0; nothing before the port has seen MSN high and fall (R174, R175, R186). -/
def MediaPort.outByte (m : MediaPort) : Option Byte :=
  match m.state with
  | .waitHigh => none
  | .unselected => none
  | .command => if m.place = 0 then m.firstByte else some 0#8
  | .answer => m.lastAnswer.bytes[m.place]?
  | .trailing => some 0#8

namespace State

/-- Sets an event flag, whether or not the mask enables it (R192). -/
def raise (s : State) (f : EventFlag) : State := s.setDesk { s.desk with flags := s.desk.flags.raise f }

/-- Whether the controller is out of reset and takes events (R198). -/
def running (s : State) : Bool := !s.resetUnit.inReset

/-- DATN is asserted while an enabled flag is set (R193); in reset it is released (R198). -/
def datnAsserted (s : State) : Bool := s.running && s.desk.flags.anyEnabled s.desk.mask

/-- MATN is asserted while the change count differs from the acknowledged count (R181); in reset it is released
(R198). -/
def matnAsserted (s : State) : Bool := s.running && s.port.changeCount != s.port.ackCount

/-- The byte that MDO carries, `none` while it is released: it is driven only while MSN is low and the controller is out of
reset (R173, R186, R198). -/
def mdo (s : State) : Option Byte := if s.running && !s.port.selectHigh then s.port.outByte else none

/-- What a panel line's transmit output carries: the reply in the shift at its rate; high while the shift is IDLE and in
reset (R36, R198). -/
def transmitting (s : State) (l : PanelLine) : Option Sending :=
  if s.running then (match l with | .a => s.panelA.shift | .b => s.panelB.shift) else none

end State

end Sys2Proof.Machine
end

