-- ==== Sys2Proof/Machine/FrontEnd.lean ====
section
/-! DEFINITION. The microphone front end: gates, edges, intervals, the envelope scan, standby and the wake settle
(chapter 6). -/

namespace Sys2Proof.Machine

namespace MicState

/-- A conversion value is handed to the gate (R124, R125). -/
def takeValue (openAt closeBelow v : Nat) (m : MicState) : MicState :=
  if m.gateOpen then
    if v < closeBelow then
      if m.closeRun + 1 ≥ 5 then MicState.closed else { m with closeRun := m.closeRun + 1 }
    else { m with closeRun := 0 }
  else if v ≥ openAt then
    if m.openRun + 1 ≥ 3 then { m with gateOpen := true, openRun := 0, closeRun := 0 }
    else { m with openRun := m.openRun + 1 }
  else { m with openRun := 0 }

/-- An interval is valid from 800 to 16,000 counts (R130). -/
def intervalValid (p : Nat) : Bool := decide (800 ≤ p ∧ p ≤ 16000)

/-- A valid interval agrees with the previous one within a sixteenth of it (R131). -/
def agrees (p q : Nat) : Bool := decide ((max p q - min p q) * 16 ≤ q)

/-- The sample an interval gives, if it is accepted (R130, R131). -/
def sampleOf (previous : Option Nat) (p : Nat) : Option Nat :=
  match previous with
  | none => none
  | some q => if intervalValid p && agrees p q then some p else none

/-- The capture counter `counts` capture clocks on: it runs while the last edge is present and saturates (R128). -/
def runCounter (counts : Nat) (m : MicState) : MicState :=
  if m.lastEdge then { m with counter := min (m.counter + counts) 65535 } else m

/-- An edge whose counter has been run on is handled: no reference, guard, or stamp (R129, R130, R131). -/
def handleEdge (m : MicState) : MicState × Option Nat :=
  if !m.lastEdge then ({ m with lastEdge := true, counter := 0 }, none)
  else if m.counter < 400 then (m, none)
  else if m.gateOpen then
    ({ m with counter := 0, previous := if intervalValid m.counter then some m.counter else none },
      sampleOf m.previous m.counter)
  else ({ m with counter := 0 }, none)

/-- A rising edge `counts` capture clocks after the edge before it: the new state and the accepted sample, if any. -/
def takeEdge (counts : Nat) (m : MicState) : MicState × Option Nat := (m.runCounter counts).handleEdge

end MicState

namespace FrontEnd

/-- The state of a microphone. -/
def mic (f : FrontEnd) : Mic → MicState
  | .a => f.micA
  | .b => f.micB

/-- The front end with one microphone's state replaced. -/
def setMic (f : FrontEnd) (m : Mic) (v : MicState) : FrontEnd :=
  match m with
  | .a => { f with micA := v }
  | .b => { f with micB := v }

/-- A scan begins with microphone A's conversion; the next is two ticks away (R123). -/
def beginScan (f : FrontEnd) : FrontEnd := { f with conversion := some .a, scanTicks := Config.scanPeriod }

/-- A conversion completes with value `v`; B's conversion follows A's (R123). -/
def complete (openAt closeBelow v : Nat) (f : FrontEnd) : FrontEnd :=
  match f.conversion with
  | none => f
  | some .a => { f with micA := f.micA.takeValue openAt closeBelow v, conversion := some .b }
  | some .b => { f with micB := f.micB.takeValue openAt closeBelow v, conversion := none }

/-- A millisecond tick: the settle timer counts, and while activity is ON every second tick begins a scan (R123, R136). -/
def tick (f : FrontEnd) : FrontEnd :=
  match f.activity with
  | .on => if f.scanTicks ≤ 1 then f.beginScan else { f with scanTicks := f.scanTicks - 1 }
  | .settling => { f with settleTimer := f.settleTimer.map (· - 1) }
  | .off => f

/-- Standby entry: activity OFF, a conversion in flight abandoned, both microphones closed (R135). -/
def turnOff (f : FrontEnd) : FrontEnd :=
  { f with activity := .off, settleTimer := none, conversion := none, micA := MicState.closed, micB := MicState.closed }

/-- Leaving standby: the 20 ms wake settle (R136). -/
def settle (f : FrontEnd) : FrontEnd := { f with activity := .settling, settleTimer := some Config.settleTime }

/-- The settle timer's expiry: activity ON and the first scan (R136). -/
def settled (f : FrontEnd) : FrontEnd := { f with activity := .on, settleTimer := none }.beginScan

end FrontEnd

end Sys2Proof.Machine
end

