-- ==== Sys2Proof/Machine/Grader.lean ====
section
/-! DEFINITION. The pitch grader: period table, note cursors, sample grading, note judgement and the scores (chapter 7). -/

namespace Sys2Proof.Machine

/-! ## The period table -/

/-- The ideal periods of note numbers 24 to 108 in capture counts: round(1,000,000 / f(n)) with
f(n) = 440 · 2^((n − 69) / 12) Hz (R138). -/
def periodTable : List Nat :=
  [30578, 28862, 27242, 25713, 24270, 22908, 21622, 20408, 19263, 18182, 17161, 16198,
   15289, 14431, 13621, 12856, 12135, 11454, 10811, 10204, 9631, 9091, 8581, 8099,
   7645, 7215, 6810, 6428, 6067, 5727, 5405, 5102, 4816, 4545, 4290, 4050,
   3822, 3608, 3405, 3214, 3034, 2863, 2703, 2551, 2408, 2273, 2145, 2025,
   1911, 1804, 1703, 1607, 1517, 1432, 1351, 1276, 1204, 1136, 1073, 1012,
   956, 902, 851, 804, 758, 716, 676, 638, 602, 568, 536, 506,
   478, 451, 426, 402, 379, 358, 338, 319, 301, 284, 268, 253,
   239]

/-- The first note number of the period table (R138). -/
@[simp] abbrev firstNote : Nat := 24

/-- The ideal period of a note number (R138); the grader asks for target numbers 30 to 90 only. -/
def periodOf (number : Nat) : Nat := periodTable.getD (number - firstNote) 0

/-! ## Fold, ratio and grade (R145, R146) -/

/-- The first pass of the fold: doubled while below 2896 / 4096 of the target, at most `tries` times. -/
def foldUp (target : Nat) : Nat → Nat → Nat
  | 0, p => p
  | tries + 1, p => if 4096 * p < 2896 * target then foldUp target tries (2 * p) else p

/-- The second pass of the fold: halved while at or above 5793 / 4096 of the target, at most `tries` times. -/
def foldDown (target : Nat) : Nat → Nat → Nat
  | 0, p => p
  | tries + 1, p => if 5793 * target ≤ 4096 * p then foldDown target tries (p / 2) else p

/-- A sample moved by whole octaves towards the target (R145).  Sixteen doublings or halvings are more than any sample of
800 to 16,000 counts and any target period of the table need. -/
def foldSample (target p : Nat) : Nat := foldDown target 16 (foldUp target 16 p)

/-- The ratio of a folded sample to the target (R145). -/
def ratioOf (target p : Nat) : Nat := 4096 * foldSample target p / target

/-- The grade of a ratio (R146). -/
def gradeOf (r : Nat) : Grade :=
  if 4038 ≤ r ∧ r ≤ 4155 then .exact else if 3980 ≤ r ∧ r ≤ 4215 then .close else .miss

/-- The lean of a ratio (R146). -/
def leanOf (r : Nat) : Lean :=
  if 4038 ≤ r ∧ r ≤ 4155 then .centre else if r < 4096 then .sharp else .flat

/-! ## Notes and part sets -/

/-- Whether a part is in a part set: the part named, or BOTH (R139). -/
def PartSet.holds (ps : PartSet) (p : Part) : Bool :=
  match ps, p with
  | _, .both => true
  | .part1, .part1 => true
  | .part2, .part2 => true
  | _, _ => false

/-- The first index at or above `i` whose note is in the part set, or the note count (R140, R141). -/
def nextNote (notes : List NoteRecord) (ps : PartSet) (i : Nat) : Nat :=
  i + (notes.drop i).findIdx fun n => ps.holds n.part

/-- The part sets a mic mode gives microphone A and microphone B (R140). -/
def MicMode.partsA : MicMode → Option PartSet
  | .soloA => some .part1 | .soloB => none | .duet => some .part1

def MicMode.partsB : MicMode → Option PartSet
  | .soloA => none | .soloB => some .part1 | .duet => some .part2

namespace OpenNote

/-- The number n of samples in the tallies (R147). -/
def samples (o : OpenNote) : Nat := o.exact + o.close + o.miss

/-- The points of a note from its tallies (R147). -/
def points (o : OpenNote) : Nat := if o.samples < 5 then 0 else (100 * o.exact + 60 * o.close) / o.samples

/-- A length limited to 4000 ms, doubled for a golden note (R147, R151). -/
def weightOf (o : OpenNote) (length : Nat) : Nat := min length 4000 * (if o.golden then 2 else 1)

/-- The weight of a note closed at its end (R147). -/
def weight (o : OpenNote) : Nat := o.weightOf o.duration

/-- The record with the tally of a grade advanced, at most to 65,535 (R146). -/
def tally (o : OpenNote) : Grade → OpenNote
  | .exact => { o with exact := min (o.exact + 1) 65535 }
  | .close => { o with close := min (o.close + 1) 65535 }
  | .miss => { o with miss := min (o.miss + 1) 65535 }
  | .none => o

end OpenNote

namespace MicGrade

/-- A note judged with a weight (R148). -/
def judge (o : OpenNote) (w : Nat) (g : MicGrade) : MicGrade :=
  { g with
    total := g.total + o.points * w
    weight := g.weight + w
    judged := g.judged + 1
    sung := if o.samples < 5 then g.sung else g.sung + 1
    onPitch := if o.points < 70 then g.onPitch else g.onPitch + 1
    openNote := none }

/-- The open-note record the opening of a note makes, with the key shift of the current entry (R143). -/
def noteOpened (key : Int) (index : Nat) (n : NoteRecord) : OpenNote :=
  { index := index, start := n.start, duration := n.duration, golden := n.golden, target := (n.number + key).toNat,
    period := periodOf (n.number + key).toNat, exact := 0, close := 0, miss := 0 }

/-- The cursor note is opened and the cursor advances (R141, R143). -/
def openCursor (notes : List NoteRecord) (ps : PartSet) (key : Int) (n : NoteRecord) (g : MicGrade) : MicGrade :=
  { g with openNote := some (noteOpened key g.cursor n), live := LiveIndicator.off,
           cursor := nextNote notes ps (g.cursor + 1) }

/-- Notes of a scored microphone closed and opened up to play time `t`, at most `tries` times (R142). -/
def follow (notes : List NoteRecord) (ps : PartSet) (key : Int) (t : Nat) : Nat → MicGrade → MicGrade
  | 0, g => g
  | tries + 1, g =>
    match g.openNote with
    | some o => if o.start + o.duration ≤ t then follow notes ps key t tries (g.judge o o.weight) else g
    | none =>
      match notes[g.cursor]? with
      | none => g
      | some n => if n.start ≤ t then follow notes ps key t tries (g.openCursor notes ps key n) else g

/-- A scored microphone's notes brought forward to play time `t` (R142). -/
def bringTo (notes : List NoteRecord) (key : Int) (t : Nat) (g : MicGrade) : MicGrade :=
  match g.parts with
  | none => g
  | some ps => follow notes ps key t (2 * notes.length + 1) g

/-- A rewind judges the open note as closed at its end; the cursor stays (R144). -/
def rewind (g : MicGrade) : MicGrade :=
  match g.openNote with
  | none => g
  | some o => g.judge o o.weight

/-- Finalisation judges the open note for the part of it that was reached; with a weight of 0 it is left out
(R151, steps 2 and 5). -/
def finish (t : Nat) (g : MicGrade) : MicGrade :=
  match g.openNote with
  | none => { g with live := LiveIndicator.off }
  | some o =>
    if o.weightOf (t - o.start) = 0 then { g with openNote := none, live := LiveIndicator.off }
    else { g.judge o (o.weightOf (t - o.start)) with live := LiveIndicator.off }

/-- A routed sample (R146). -/
def takeSample (p : Nat) (g : MicGrade) : MicGrade :=
  match g.openNote with
  | none => { g with live := LiveIndicator.off }
  | some o =>
    let r := ratioOf o.period p
    { g with openNote := some (o.tally (gradeOf r)), live := ⟨gradeOf r, leanOf r⟩ }

/-- The running score of a microphone, in tenths; the microphone score in a final report (R150, R152). -/
def score (g : MicGrade) : Option Nat :=
  if g.parts.isSome && decide (g.weight > 0) then some (10 * g.total / g.weight) else none

/-- The counts a final report carries for a scored microphone (R152). -/
def counts (g : MicGrade) : Option NoteCounts :=
  if g.parts.isSome then some ⟨g.judged, g.sung, g.onPitch⟩ else none

/-- A microphone at a new song (R140, steps 1 to 3). -/
def begin (notes : List NoteRecord) (parts : Option PartSet) : MicGrade :=
  { MicGrade.unscored with
    parts := parts
    cursor := match parts with
      | none => 0
      | some ps => nextNote notes ps 0 }

/-- The microphone fields of a scene after the gate: live grade, lean, target, running score (R156, section 11.4). -/
def sceneBytes (g : MicGrade) : List Byte :=
  [g.live.grade.code, g.live.lean.code,
    match g.openNote with
    | none => 0#8
    | some o => byteOf o.target] ++ optional2 g.score

end MicGrade

/-- The entry score from the two microphone scores (R153). -/
def entryScoreOf (parts : Option PartSet × Option PartSet) (a b : Option Nat) : Option Nat :=
  match parts.1, parts.2 with
  | some _, none => a
  | none, some _ => b
  | none, none => none
  | some _, some _ =>
    match a, b with
    | some x, some y => some ((x + y) / 2)
    | some x, none => some x
    | none, some y => some y
    | none, none => none

namespace Grader

/-- An advance is taken; outside FOLLOWING it does nothing (R142, R144). -/
def take (notes : List NoteRecord) (key : Int) (a : Advance) (g : Grader) : Grader :=
  if g.mode = .following then
    match a.kind with
    | .rewind => { g with invalid := true, micA := g.micA.rewind, micB := g.micB.rewind }
    | .step => { g with micA := g.micA.bringTo notes key a.time, micB := g.micB.bringTo notes key a.time }
    | .jump => { g with micA := g.micA.bringTo notes key a.time, micB := g.micB.bringTo notes key a.time }
  else g

/-- Every waiting advance is taken, in the order it was handed (R76). -/
def takeAll (notes : List NoteRecord) (key : Int) (g : Grader) : Grader :=
  g.inbox.foldl (fun r a => r.take notes key a) { g with inbox := [] }

/-- The new-song event (R140). -/
def newSong (notes : List NoteRecord) (mode : MicMode) (g : Grader) : Grader :=
  { g with mode := .following, invalid := false, micA := .begin notes mode.partsA, micB := .begin notes mode.partsB,
           report := none }

/-- The report the present totals give (R152, R153). -/
def reportNow (g : Grader) : FinalReport :=
  { scoreA := g.micA.score, scoreB := g.micB.score,
    entryScore := entryScoreOf (g.micA.parts, g.micB.parts) g.micA.score g.micB.score,
    countsA := g.micA.counts, countsB := g.micB.counts, invalid := g.invalid }

/-- The notes brought forward and the open ones judged, at final play time `t` (R151, steps 1 to 3). -/
def settleNotes (notes : List NoteRecord) (key : Int) (t : Nat) (g : Grader) : Grader :=
  { g with micA := (g.micA.bringTo notes key t).finish t, micB := (g.micB.bringTo notes key t).finish t }

/-- The request for final scores at `t`, taken in FOLLOWING (R151). -/
def finalScores (notes : List NoteRecord) (key : Int) (t : Nat) (g : Grader) : Grader :=
  if g.mode = .following then
    { g.settleNotes notes key t with mode := .final, report := some (g.settleNotes notes key t).reportNow }
  else g

/-- The song has ended without scores: no report, and FINAL (R89, step 2). -/
def songEnded (g : Grader) : Grader :=
  if g.mode = .following then { g with mode := .final, report := none } else g

/-- The song is discarded (R158). -/
def discard (g : Grader) : Grader :=
  { g with mode := .noSong, invalid := false, micA := MicGrade.unscored, micB := MicGrade.unscored, report := none }

/-- A sample handed on for a microphone, taken in FOLLOWING (R146). -/
def takeSample (m : Mic) (p : Nat) (g : Grader) : Grader :=
  if g.mode = .following then
    match m with
    | .a => { g with micA := g.micA.takeSample p }
    | .b => { g with micB := g.micB.takeSample p }
  else g

/-- An advance is handed to the grader (R76). -/
def hand (a : Advance) (g : Grader) : Grader := { g with inbox := g.inbox ++ [a] }

end Grader

end Sys2Proof.Machine
end

