-- ==== Sys2Proof/Machine/Lyric.lean ====
section
/-! DEFINITION. The lyric sequencer: the window, the scroll, the rebuild, the wipe and the countdown (chapter 5).  Every
function reads the lyric track of the bank it is given, the playing bank. -/

namespace Sys2Proof.Machine

/-! ## Lines and time -/

/-- The end of a line of the track; 0 for an index beyond it. -/
def Bank.lineEndAt (b : Bank) (i : Nat) : Nat :=
  match b.lyrics[i]? with
  | none => 0
  | some l => l.endTime

/-- The end of the line before line `i`, 0 for line 0 (R109). -/
def Bank.endBefore (b : Bank) (i : Nat) : Nat := if i = 0 then 0 else b.lineEndAt (i - 1)

/-- The countdown step q of the bank's header (R49, R109). -/
def Bank.step (b : Bank) : Nat :=
  match b.header with
  | none => 0
  | some h => h.step

/-- The song length of the bank's header (R49). -/
def Bank.songLength (b : Bank) : Nat :=
  match b.header with
  | none => 0
  | some h => h.length

/-! ## Line state and wipe (R107, R108) -/

/-- The line states (R107). -/
inductive LineState where
  | upcoming | singing | sung
deriving DecidableEq, Repr

def LineState.code : LineState → Byte
  | .upcoming => 1#8 | .singing => 2#8 | .sung => 3#8

namespace LyricLine

/-- When the first syllable begins (R107). -/
def firstBegins (l : LyricLine) : Nat :=
  match l.syllables with
  | [] => l.start
  | y :: _ => l.start + y.offset

/-- The state of a line at play time `t` (R107). -/
def stateAt (l : LyricLine) (t : Nat) : LineState :=
  if t < l.firstBegins then .upcoming else if t < l.endTime then .singing else .sung

/-- The wipe over syllables at `t` ms from the line's start, when `before` glyphs stand before them: the last syllable
begun decides, and its end is waited at (R108). -/
def wipeOver (t : Nat) : List Syllable → Nat → Nat
  | [], before => 16 * before
  | y :: rest, before =>
    if t < y.offset then 16 * before
    else match rest with
    | [] =>
      if t < y.offset + y.duration then 16 * before + 16 * y.glyphs * (t - y.offset) / y.duration
      else 16 * (before + y.glyphs)
    | next :: _ =>
      if next.offset ≤ t then wipeOver t rest (before + y.glyphs)
      else if t < y.offset + y.duration then 16 * before + 16 * y.glyphs * (t - y.offset) / y.duration
      else 16 * (before + y.glyphs)

/-- The wipe position of a line at play time `t`, in sixteenths of a glyph (R108). -/
def wipeAt (l : LyricLine) (t : Nat) : Nat :=
  if t < l.firstBegins then 0
  else if l.endTime ≤ t then 16 * glyphTotal l.syllables
  else wipeOver (t - l.start) l.syllables 0

end LyricLine

/-! ## The countdown (R109 to R111) -/

/-- Whether line `i`, the record `l`, has a gap of at least the threshold before it (R109). -/
def Bank.qualifies (b : Bank) (threshold i : Nat) (l : LyricLine) : Bool :=
  decide (threshold ≤ l.start - b.endBefore i)

/-- The countdown step of a line (R109). -/
def Bank.stepOf (b : Bank) (l : LyricLine) : Nat := l.override.getD b.step

/-- Where the countdown interval of line `i` begins (R109). -/
def Bank.countdownBegins (b : Bank) (i : Nat) (l : LyricLine) : Nat :=
  max (l.start - 4 * b.stepOf l) (b.endBefore i)

namespace Sequencer

/-- The countdown search from the search index, over at most `tries` lines (R110). -/
def searchCountdown (b : Bank) (t : Nat) : Nat → Sequencer → Sequencer
  | 0, q => q
  | tries + 1, q =>
    match b.lyrics[q.search]? with
    | none => q
    | some l =>
      if !b.qualifies q.settings.gap q.search l || decide (l.start ≤ t) then
        searchCountdown b t tries { q with search := q.search + 1 }
      else if b.countdownBegins q.search l ≤ t then
        { q with countdown := some ⟨q.search, b.stepOf l⟩, search := q.search + 1 }
      else q

/-- The countdown search; none is made while the record is present (R110). -/
def beginCountdown (b : Bank) (t : Nat) (q : Sequencer) : Sequencer :=
  if q.countdown.isSome then q else q.searchCountdown b t b.lyrics.length

/-- The countdown value at play time `t` (R111). -/
def countdownValue (b : Bank) (t : Nat) (q : Sequencer) : Nat :=
  match q.countdown with
  | none => 0
  | some c =>
    match b.lyrics[c.line]? with
    | none => 0
    | some l => min 4 ((l.start - t + c.step - 1) / c.step)

/-! ## The window (R97 to R102) -/

/-- Line `l` is due to enter at play time `t` (R98). -/
def isDue (q : Sequencer) (t : Nat) (l : LyricLine) : Bool := decide (l.start ≤ t + q.settings.lead)

/-- The cursor line enters a free row (R99). -/
def enterRow (q : Sequencer) : Sequencer := { q with window := q.window ++ [q.cursor], cursor := q.cursor + 1 }

/-- An exit of line `first` at play time `t`, with `rest` left behind it (R100). -/
def exitRow (q : Sequencer) (t first : Nat) (rest : List Nat) : Sequencer :=
  { q with window := rest ++ [q.cursor], cursor := q.cursor + 1, scroll := some ⟨first, t⟩ }

/-- A forced exit counts, at most to 65,535 (R102). -/
def countForced (q : Sequencer) : Sequencer := { q with forced := min (q.forced + 1) 65535 }

/-- The conditions of a normal exit of line `first` for the cursor line `l` (R101). -/
def mayExit (b : Bank) (t first : Nat) (l : LyricLine) (q : Sequencer) : Bool :=
  q.isDue t l && q.scroll.isNone && decide (b.lineEndAt first + q.settings.hold ≤ t)

/-- Entries and exits repeated until none applies, at most `tries` times (R97, step 3). -/
def moveWindow (b : Bank) (t : Nat) : Nat → Sequencer → Sequencer
  | 0, q => q
  | tries + 1, q =>
    match b.lyrics[q.cursor]? with
    | none => q
    | some l =>
      if q.window.length < q.settings.rows then
        if q.isDue t l then moveWindow b t tries q.enterRow else q
      else match q.window with
      | [] => q
      | first :: rest =>
        if q.mayExit b t first l then moveWindow b t tries (q.exitRow t first rest)
        else if l.start ≤ t then moveWindow b t tries (q.exitRow t first rest).countForced
        else q

/-- Scroll end (R97, step 1). -/
def endScroll (t : Nat) (q : Sequencer) : Sequencer :=
  match q.scroll with
  | none => q
  | some c => if c.start + q.settings.scroll ≤ t then { q with scroll := none } else q

/-- Countdown end (R97, step 2). -/
def endCountdown (b : Bank) (t : Nat) (q : Sequencer) : Sequencer :=
  match q.countdown with
  | none => q
  | some c =>
    match b.lyrics[c.line]? with
    | none => { q with countdown := none }
    | some l => if l.start ≤ t then { q with countdown := none } else q

/-- The state brought forward to play time `t` (R97). -/
def step (b : Bank) (t : Nat) (q : Sequencer) : Sequencer :=
  beginCountdown b t (moveWindow b t b.lyrics.length (endCountdown b t (endScroll t q)))

/-! ## Rebuild (R106) -/

/-- Entries taken until the window is full or the cursor line is not due, at most `tries` (R106, step 5). -/
def fillWindow (b : Bank) (t : Nat) : Nat → Sequencer → Sequencer
  | 0, q => q
  | tries + 1, q =>
    match b.lyrics[q.cursor]? with
    | none => q
    | some l =>
      if decide (q.window.length < q.settings.rows) && q.isDue t l then fillWindow b t tries q.enterRow else q

/-- The window and the countdown made afresh for play time `t` (R106, R112). -/
def rebuild (b : Bank) (t : Nat) (q : Sequencer) : Sequencer :=
  let filled := fillWindow b t b.lyrics.length
    { q with window := [], scroll := none, countdown := none,
             cursor := b.lyrics.findIdx fun l => decide (t < l.endTime + q.settings.hold) }
  beginCountdown b t { filled with search := b.lyrics.findIdx fun l => decide (t < l.start) }

/-! ## Advances, a new song, a dropped song -/

/-- An advance is taken: a STEP is processed, a JUMP or REWIND rebuilds (R97, R105). -/
def take (b : Bank) (a : Advance) (q : Sequencer) : Sequencer :=
  match a.kind with
  | .step => q.step b a.time
  | .jump => q.rebuild b a.time
  | .rewind => q.rebuild b a.time

/-- Every waiting advance is taken, in the order it was handed (R76, R116). -/
def takeAll (b : Bank) (q : Sequencer) : Sequencer :=
  q.inbox.foldl (fun r a => r.take b a) { q with inbox := [] }

/-- The new-song event (R96): the settings are copied and everything but the forced-exit count starts afresh. -/
def newSong (settings : LyricSettings) (q : Sequencer) : Sequencer :=
  { q with settings := settings, window := [], cursor := 0, search := 0, scroll := none, countdown := none }

/-- The song is dropped at ROOM CLEAR (R115). -/
def dropSong (q : Sequencer) : Sequencer := { q with window := [], scroll := none, countdown := none }

/-- An advance is handed to the sequencer (R76). -/
def hand (a : Advance) (q : Sequencer) : Sequencer := { q with inbox := q.inbox ++ [a] }

/-! ## Row fields of a scene (R103, R117, R118, section 11.4) -/

/-- The six bytes of an empty slot. -/
def emptySlot : List Byte := [0#8, 0#8, 0#8, 0#8, 0#8, 0#8]

/-- The slot of line `i`: present, index, part, line state, wipe. -/
def lineSlot (b : Bank) (t i : Nat) : List Byte :=
  match b.lyrics[i]? with
  | none => emptySlot
  | some l => [1#8, byteOf i, l.part.code, (l.stateAt t).code] ++ field2 (l.wipeAt t)

/-- The four row slots, row 0 first; rows beyond the window, and beyond the rows in use, are empty. -/
def rowSlots (b : Bank) (t : Nat) (q : Sequencer) : List Byte :=
  (List.range 4).flatMap fun r =>
    if r < q.settings.rows then
      match q.window[r]? with
      | none => emptySlot
      | some i => lineSlot b t i
    else emptySlot

/-- The leaving line's slot, empty while no scroll is in flight (R118). -/
def leavingSlot (b : Bank) (t : Nat) (q : Sequencer) : List Byte :=
  match q.scroll with
  | none => emptySlot
  | some c => lineSlot b t c.line

/-- The scroll phase at play time `t` (R103). -/
def phase (t : Nat) (q : Sequencer) : Option Nat := q.scroll.map fun c => 16 * (t - c.start) / q.settings.scroll

end Sequencer

end Sys2Proof.Machine
end

