-- ==== Sys2Proof/Machine/Panel.lean ====
section
/-! DEFINITION. The receiver, the frame assembler and the transmitter of a panel line unit (R25 to R31, R35, R45). -/

namespace Sys2Proof.Machine

/-! ## The frame assembler -/

/-- A frame is in progress from its accepted lead byte on (R27). -/
def Assembler.inProgress : Assembler → Bool
  | .outside => false
  | .awaitLead => false
  | _ => true

/-- What an outcome does to the assembler: its next state, with an error that ends the frame, or a complete frame. -/
structure Assembled where
  next : Assembler
  error : Option FrameError
  frame : Option (Byte × List Byte)
deriving DecidableEq, Repr

def Assembled.moved (a : Assembler) : Assembled := ⟨a, none, none⟩
def Assembled.failed (e : FrameError) : Assembled := ⟨.outside, some e, none⟩
def Assembled.completed (kind : Byte) (payload : List Byte) : Assembled := ⟨.outside, none, some (kind, payload)⟩

/-- A good character (R28, R30). -/
def Assembler.takeGood (v : Byte) : Assembler → Assembled
  | .outside => .moved .outside
  | .awaitLead => if v = Config.leadByte then .moved .awaitKind else .failed .lead
  | .awaitKind => .moved (.awaitLength v v)
  | .awaitLength kind sum =>
    if v.toNat > 16 then .failed .length
    else if v.toNat = 0 then .moved (.awaitCheck kind [] (sum + v))
    else .moved (.payload kind v.toNat [] (sum + v))
  | .payload kind length stored sum =>
    if stored.length + 1 ≥ length then .moved (.awaitCheck kind (stored ++ [v]) (sum + v))
    else .moved (.payload kind length (stored ++ [v]) (sum + v))
  | .awaitCheck kind stored sum => if sum + v = 0#8 then .completed kind stored else .failed .check

/-- A PARITY or FRAMING character: ignored in OUTSIDE, an error elsewhere (R28, R30). -/
def Assembler.takeBad (e : FrameError) (a : Assembler) : Assembled :=
  if a = .outside then .moved .outside else .failed e

/-- What a received character does to the assembler; a false start does nothing (R25). -/
def Assembler.take (r : Received) (a : Assembler) : Assembled :=
  match r with
  | .falseStart => .moved a
  | .good v => a.takeGood v
  | .parity => a.takeBad .parity
  | .framing => a.takeBad .framing

/-! ## The counters (R31) -/

/-- One more, at most 255. -/
def bump (n : Nat) : Nat := min (n + 1) 255

/-- The counters with the one of an error advanced (R30, R31). -/
def LineCounters.count (c : LineCounters) : FrameError → LineCounters
  | .parity => { c with parity := bump c.parity }
  | .framing => { c with framing := bump c.framing }
  | .lead => { c with lead := bump c.lead }
  | .length => { c with length := bump c.length }
  | .check => { c with check := bump c.check }
  | .gap => { c with gap := bump c.gap }
  | .cut => { c with cut := bump c.cut }

/-- The counters with DROP advanced (R31, R32). -/
def LineCounters.countDrop (c : LineCounters) : LineCounters := { c with drop := bump c.drop }

/-- The eight bytes of a line's counters (section 11.5). -/
def LineCounters.bytes (c : LineCounters) : List Byte :=
  [c.parity, c.framing, c.lead, c.length, c.check, c.gap, c.cut, c.drop].map byteOf

namespace PanelUnit

/-! ## The receiver -/

/-- Whether the receiver can take a character or a break: it watches, or the line it waits for is high (R25, R26). -/
def canReceive (u : PanelUnit) : Bool := u.receiver == .watching || u.lineHigh

/-- The pending rate adopted by receiver and transmitter; what is in the shift keeps its own (R45). -/
def adoptRate (u : PanelUnit) : PanelUnit := { u with rate := u.pendingRate.getD u.rate, pendingRate := none }

/-- A break is taken: the rate is adopted, the receiver waits for the line to be high, and the assembler awaits a lead
byte; a frame in progress is cut (R26, R28, R30, R45). -/
def takeBreak (u : PanelUnit) : PanelUnit :=
  { u.adoptRate with
    lineHigh := false
    receiver := .waitHigh
    assembler := .awaitLead
    gapCounting := false
    counters := if u.assembler.inProgress then u.counters.count .cut else u.counters }

/-- The assembler has taken an outcome: its new state, the counter of an error, and the gap count, which runs in a frame
in progress (R29, R30). -/
def afterAssembly (u : PanelUnit) (a : Assembled) : PanelUnit :=
  { u with
    lineHigh := true
    receiver := .watching
    assembler := a.next
    gapCounting := a.next.inProgress
    counters := match a.error with
      | none => u.counters
      | some e => u.counters.count e }

/-- The gap count has reached 44 bit times (R29, R30). -/
def gapError (u : PanelUnit) : PanelUnit :=
  { u with assembler := .outside, gapCounting := false, counters := u.counters.count .gap }

/-- The receive line is high again (R25, R26). -/
def returnHigh (u : PanelUnit) : PanelUnit := { u with lineHigh := true, receiver := .watching }

/-! ## The transmitter (R35) -/

/-- A finished reply is placed in the slot; an idle shift takes it at once, at the rate in use (R35, R36). -/
def placeReply (u : PanelUnit) (r : PanelReply) : PanelUnit :=
  match u.shift with
  | none => { u with slot := .empty, shift := some ⟨r, u.rate⟩ }
  | some _ => { u with slot := .full r }

/-- The reply frame in the shift has been sent (R35). -/
def completeShift (u : PanelUnit) : PanelUnit :=
  match u.shift with
  | none => u
  | some _ =>
    match u.slot with
    | .full r => { u with slot := .empty, shift := some ⟨r, u.rate⟩ }
    | _ => { u with shift := none }

/-- The configured rate has changed: a rate in use leaves nothing pending (R45). -/
def setPendingRate (u : PanelUnit) (r : Rate) : PanelUnit :=
  { u with pendingRate := if r = u.rate then none else some r }

/-- The slot is reserved for the reply to a request (R35). -/
def reserve (u : PanelUnit) : PanelUnit := { u with slot := .reserved }

/-- A request is dropped because the slot is not empty (R32). -/
def drop (u : PanelUnit) : PanelUnit := { u with counters := u.counters.countDrop }

end PanelUnit

/-- The origin the controller records for a line (chapter 2). -/
def lineOrigin : PanelLine → Origin
  | .a => .panelA
  | .b => .panelB

/-- The NO reply: the request kind as received and the code (R34, R206). -/
def noReply (kind : Byte) (code : ResultCode) : PanelReply := ⟨0x81#8, [kind, code.code]⟩

/-- The OK reply: the request kind and the results (R34). -/
def okReply (kind : Byte) (results : List Byte) : PanelReply := ⟨0x80#8, kind :: results⟩

/-- The reply to a request from its owning block's answer: OK with the results, or NO with the code (R34). -/
def requestReply (kind : Byte) (a : Answer) : PanelReply :=
  if a.code = .ok then okReply kind a.payload else noReply kind a.code

end Sys2Proof.Machine
end

