-- ==== Sys2Proof/Machine/Queue.lean ====
section
/-! DEFINITION. The queue controller's own operations: the allocator, placement, the moves within the queue, queue pages
and the room account (chapter 1).  What they make other blocks do is in `Ops.lean`. -/

namespace Sys2Proof.Machine

/-! ## The entry-id allocator (R4) -/

/-- The id after `id` on the circle 1 to 250. -/
def nextIdAfter (id : Nat) : Nat := if id ≥ Config.maxId then 1 else id + 1

/-- The first id after `last` that `used` does not hold, trying at most `tries` candidates. -/
def findFreeId (used : List Nat) : Nat → Nat → Option Nat
  | 0, _ => none
  | tries + 1, last =>
    let candidate := nextIdAfter last
    if used.contains candidate then findFreeId used tries candidate else some candidate

/-- The id issued when the ids in `used` are in use and `last` was issued last (R4). -/
def issueId (used : List Nat) (last : Nat) : Nat := (findFreeId used Config.maxId last).getD Config.exhaustedId

/-- The arrival number after `n`: after 65,535 comes 1 (R3). -/
def nextArrival (n : Nat) : Nat := if n ≥ 65535 then 1 else n + 1

/-! ## The queue (R1, R6) -/

/-- A list with `x` put in after its first `i` elements. -/
def insertAfter {α : Type} (l : List α) (i : Nat) (x : α) : List α := l.take i ++ x :: l.drop i

namespace RoomQueue

/-- The id of the head, or none (R1, R16). -/
def headId (q : RoomQueue) : Option Nat := q.entries.head?.map (·.id)

/-- The number p of priority entries (R1). -/
def priorityCount (q : RoomQueue) : Nat := q.entries.countP (·.priority)

/-- The number of queue entries of an origin (R22). -/
def heldBy (q : RoomQueue) (o : Origin) : Nat := q.entries.countP (·.origin == o)

/-- The queue entry that carries an id. -/
def find (q : RoomQueue) (id : Nat) : Option Entry := q.entries.find? (·.id == id)

/-- The position, from 1, of the entry that carries an id. -/
def positionOf (q : RoomQueue) (id : Nat) : Nat := q.entries.findIdx (·.id == id) + 1

/-- The entries without the one that carries an id; those behind it move forward (R1). -/
def entriesWithout (q : RoomQueue) (id : Nat) : List Entry := q.entries.eraseP (·.id == id)

/-- The queue without the entry that carries an id. -/
def remove (q : RoomQueue) (id : Nat) : RoomQueue := { q with entries := q.entriesWithout id }

/-- The number of entries a new entry is placed behind: all of them, or the priority entries (R6). -/
def placeBehind (q : RoomQueue) (priority : Bool) : Nat :=
  if priority then q.priorityCount else q.entries.length

/-- The entry an accepted submission makes (R2). -/
def newEntry (q : RoomQueue) (used : List Nat) (o : Origin) (priority : Bool) (r : SongRequest) (mode : MicMode) :
    Entry :=
  { id := issueId used q.lastId, song := r.song, singer := min r.singer 15, origin := o, priority := priority,
    micMode := mode, keyShift := clampKey r.key, arrival := nextArrival q.arrivals }

/-- The queue after an entry is placed: id and arrival number recorded as issued, the entry behind `behind` others
(R3, R4, R6). -/
def enrol (q : RoomQueue) (e : Entry) (behind : Nat) : RoomQueue :=
  { q with entries := insertAfter q.entries behind e, lastId := e.id, arrivals := e.arrival }

/-- The clamped target of a move, p + 1 to n (R11). -/
def moveTarget (q : RoomQueue) (target : Nat) : Nat := clamp target (q.priorityCount + 1) q.entries.length

/-- The queue with entry `e` taken out and put back at a position (R11). -/
def moveTo (q : RoomQueue) (e : Entry) (position : Nat) : RoomQueue :=
  { q with entries := insertAfter (q.entriesWithout e.id) (position - 1) e }

/-- The queue with a normal entry made a priority entry, directly after the last one (R12). -/
def promoteEntry (q : RoomQueue) (e : Entry) : RoomQueue :=
  { q with entries := insertAfter (q.entriesWithout e.id) q.priorityCount { e with priority := true } }

/-! ## The room account (R18 to R20) -/

/-- Credits at least 1, or the unlimited flag set (R17, R70). -/
def mayStart (q : RoomQueue) : Bool := decide (q.credits ≥ 1) || q.unlimited

/-- The account after the credit of an entry that enters PLAYING is taken (R19). -/
def takeCredit (q : RoomQueue) : RoomQueue :=
  if !q.unlimited && decide (q.credits ≥ 1) then { q with credits := q.credits - 1 } else q

/-- CREDITS SET (R18, R20). -/
def setCredits (q : RoomQueue) (value : Nat) : RoomQueue :=
  { q with credits := min value Config.maxCredits, shortage := q.shortage && value == 0 }

/-- CREDITS ADD (R18, R20). -/
def addCredits (q : RoomQueue) (amount : Nat) : RoomQueue :=
  { q with credits := min (q.credits + amount) Config.maxCredits, shortage := q.shortage && amount == 0 }

/-- CREDITS UNLIMITED (R18, R20). -/
def setUnlimited (q : RoomQueue) (on : Bool) : RoomQueue :=
  { q with unlimited := on, shortage := q.shortage && !on }

/-- The payload that reports the account to the desk: unlimited, credits (section 11.5). -/
def accountPayload (q : RoomQueue) : List Byte := yesNo q.unlimited :: field2 q.credits

/-- The queue and the account after ROOM CLEAR (R23). -/
def cleared (q : RoomQueue) : RoomQueue :=
  { q with entries := [], credits := 0, unlimited := false, shortage := false }

/-! ## Queue reads (R15) -/

/-- The 12 bytes of a queue entry at a position (section 11.3). -/
def entryBytes (position : Nat) (e : Entry) : List Byte :=
  byteOf position :: byteOf e.id :: field3 e.song ++
    [byteOf e.singer, e.origin.code, yesNo e.priority, e.micMode.code, signedByte e.keyShift] ++ field2 e.arrival

/-- The entries of a page: from position `first` (0 taken as 1), at most `size`, each with its position. -/
def page (q : RoomQueue) (first size : Nat) : List (Nat × Entry) :=
  (((q.entries.zipIdx 1).drop (max first 1 - 1)).take size).map fun x => (x.2, x.1)

/-- A queue page as both lines carry it: length, entries in the page, entries (R42, R203). -/
def pageBytes (q : RoomQueue) (first size : Nat) : List Byte :=
  byteOf q.entries.length :: byteOf (q.page first size).length ::
    (q.page first size).flatMap fun x => entryBytes x.1 x.2

end RoomQueue

end Sys2Proof.Machine
end

