-- ==== Sys2Proof/Machine/Results.lean ====
section
/-! DEFINITION. The results store: the history, the session board, the counter, and their pages (chapter 8). -/

namespace Sys2Proof.Machine

/-- A record qualifies for the session board (R165). -/
def HistoryRecord.qualifies (r : HistoryRecord) : Bool :=
  r.outcome == .completed && r.entryScore.isSome && !r.invalid

/-- The board record made from a history record (R165). -/
def HistoryRecord.boardRecord (r : HistoryRecord) : BoardRecord :=
  { score := r.entryScore.getD 0, song := r.song, singer := r.singer, origin := r.origin, micMode := r.micMode,
    id := r.id, finish := r.finish }

/-- The number k of board records whose score is at least `score` (R166). -/
def boardRank (board : List BoardRecord) (score : Nat) : Nat := board.countP fun r => decide (score ≤ r.score)

/-- Whether an offer changes the board: it has room, or the score is above the one at rank 8 (R166). -/
def boardTakes (board : List BoardRecord) (score : Nat) : Bool :=
  decide (board.length < Config.boardSize) ||
    match board[7]? with
    | none => true
    | some last => decide (last.score < score)

/-- The board after a record is inserted behind every score at least its own; a ninth is dropped (R166). -/
def boardInsert (board : List BoardRecord) (r : BoardRecord) : List BoardRecord :=
  (board.take (boardRank board r.score) ++ r :: board.drop (boardRank board r.score)).take Config.boardSize

namespace Results

/-- Whether a record is inserted on the board when it is added (R165, R166). -/
def inserts (v : Results) (r : HistoryRecord) : Bool := r.qualifies && boardTakes v.board (r.entryScore.getD 0)

/-- The finish number the next record takes (R163). -/
def nextFinish (v : Results) : Nat := min (v.counter + 1) 65535

/-- A record added: numbered, placed at index 1 of at most sixteen, and offered to the board (R163, R165, R166). -/
def add (v : Results) (r : HistoryRecord) : Results :=
  let numbered := { r with finish := v.nextFinish }
  { history := (numbered :: v.history).take Config.historySize
    board := if v.inserts r then boardInsert v.board numbered.boardRecord else v.board
    counter := v.nextFinish }

/-- The store after ROOM CLEAR: emptied, the counter kept (R169). -/
def cleared (v : Results) : Results := { v with history := [], board := [] }

/-- The store after NEW SESSION (R168). -/
def newSession : Results := { history := [], board := [], counter := 0 }

/-! ## Reads (R44, R170, R171) -/

/-- The records of a page from index `first` (0 taken as 1), at most `size`, each with its index. -/
def page (v : Results) (first size : Nat) : List (Nat × HistoryRecord) :=
  (((v.history.zipIdx 1).drop (max first 1 - 1)).take size).map fun x => (x.2, x.1)

/-- The 13-byte summary of a record (R44, section 11.3). -/
def summaryBytes (index : Nat) (r : HistoryRecord) : List Byte :=
  byteOf index :: byteOf r.id :: field3 r.song ++ [byteOf r.singer, r.origin.code, r.outcome.code] ++
    optional2 r.entryScore ++ yesNo r.invalid :: field2 r.finish

/-- The counts of a microphone in a full record, each marked absent when the record has none (section 11.5). -/
def countsBytes (c : Option NoteCounts) : List Byte :=
  optional2 (c.map (·.judged)) ++ optional2 (c.map (·.sung)) ++ optional2 (c.map (·.onPitch))

/-- The 35-byte full record (section 11.5). -/
def recordBytes (index : Nat) (r : HistoryRecord) : List Byte :=
  byteOf index :: byteOf r.id :: field3 r.song ++
    [byteOf r.singer, r.origin.code, yesNo r.priority, r.micMode.code, signedByte r.keyShift, r.outcome.code] ++
    optional2 r.scoreA ++ optional2 r.scoreB ++ optional2 r.entryScore ++ yesNo r.invalid :: countsBytes r.countsA ++
    countsBytes r.countsB ++ field3 r.duration ++ field2 r.finish

/-- A page with its header: records held, records in the page, records. -/
def pageBytes (v : Results) (first size : Nat) (bytes : Nat → HistoryRecord → List Byte) : List Byte :=
  byteOf v.history.length :: byteOf (v.page first size).length ::
    (v.page first size).flatMap fun x => bytes x.1 x.2

/-- The 12-byte board record at a rank (section 11.5). -/
def boardBytes (rank : Nat) (r : BoardRecord) : List Byte :=
  byteOf rank :: field2 r.score ++ field3 r.song ++ [byteOf r.singer, r.origin.code, r.micMode.code, byteOf r.id] ++
    field2 r.finish

/-- The whole board in rank order (R171). -/
def boardPage (v : Results) : List Byte :=
  byteOf v.board.length :: (v.board.zipIdx 1).flatMap fun x => boardBytes x.2 x.1

end Results

end Sys2Proof.Machine
end

