-- ==== Sys2Proof/Machine/Staging.lean ====
section
/-! DEFINITION. The song store and the staging controller's own operations: the banks and their roles, the checks and
the storing of stage records (chapter 3).  Naming the head and posting are in `Ops.lean`. -/

namespace Sys2Proof.Machine

/-! ## Headers, lines and notes -/

/-- No track can have the declared counts (R54, step 3). -/
def BankHeader.impossible (h : BankHeader) : Bool :=
  decide (h.syllables < h.lines ∨ h.syllables > 32 * h.lines ∨ h.glyphs < h.syllables ∨ h.glyphs > 16 * h.syllables)

/-- Every syllable after the first begins at or after the end of the one before it (R56, step 5). -/
def syllablesOrdered : List Syllable → Bool
  | [] => true
  | [_] => true
  | x :: y :: rest => decide (x.offset + x.duration ≤ y.offset) && syllablesOrdered (y :: rest)

/-- A line's end: its start, its last syllable's offset and that syllable's duration (R48). -/
def lineEnd (start : Nat) (ys : List Syllable) : Nat :=
  match ys.getLast? with
  | none => start
  | some y => start + y.offset + y.duration

/-- Some field of a LINE is out of range (R57, step 2). -/
def lineFieldsBad (songLength : Nat) (l : LineFields) : Bool :=
  l.part.isNone ||
    (match l.override with
      | none => false
      | some v => decide (v < 150 ∨ v > 2000)) ||
    decide (l.syllables.length = 0 ∨ l.syllables.length > 32) ||
    l.syllables.any (fun y => decide (y.duration < 1 ∨ y.duration > 8000)) ||
    l.syllables.any (fun y => decide (y.glyphs < 1 ∨ y.glyphs > 16)) ||
    decide (l.glyphCodes.length ≠ glyphTotal l.syllables) ||
    decide (lineEnd l.start l.syllables > songLength)

/-- A bank with an accepted LINE stored (R58). -/
def Bank.storeLine (b : Bank) (l : LineFields) (part : Part) : Bank :=
  { b with
    lyrics := b.lyrics ++ [⟨l.start, part, l.override, l.syllables, l.glyphCodes, lineEnd l.start l.syllables⟩]
    counts := { b.counts with
      lines := b.counts.lines + 1
      syllables := b.counts.syllables + l.syllables.length
      glyphs := b.counts.glyphs + glyphTotal l.syllables }
    marks := { b.marks with lastLineEnd := lineEnd l.start l.syllables } }

/-- The note would overlap a stored note that can reach the same microphone; a part that is none of the three is compared
with neither reach (R59, step 5). -/
def overlaps (m : TrackMarks) (start : Nat) (part : Option Part) : Bool :=
  match part with
  | some .part1 => decide (start < m.part1Reach)
  | some .part2 => decide (start < m.part2Reach)
  | some .both => decide (start < max m.part1Reach m.part2Reach)
  | none => false

/-- The marks after a note of a part is stored (R60). -/
def TrackMarks.afterNote (m : TrackMarks) (n : NoteFields) (part : Part) : TrackMarks :=
  { m with
    lastNoteStart := n.start
    part1Reach := if part = .part2 then m.part1Reach else max m.part1Reach (n.start + n.duration)
    part2Reach := if part = .part1 then m.part2Reach else max m.part2Reach (n.start + n.duration) }

/-- A bank with an accepted NOTE stored (R60). -/
def Bank.storeNote (b : Bank) (n : NoteFields) (part : Part) : Bank :=
  { b with
    notes := b.notes ++ [⟨n.start, n.duration, n.number, part, n.golden⟩]
    counts := { b.counts with notes := b.counts.notes + 1 }
    marks := b.marks.afterNote n part }

/-- The four stored counts equal the four declared counts (R61). -/
def Bank.countsAgree (b : Bank) : Bool :=
  match b.header with
  | none => false
  | some h => b.counts == ⟨h.lines, h.syllables, h.glyphs, h.notes⟩

namespace SongStore

/-! ## Banks, roles and the named head -/

/-- The bank with the staging role (R47). -/
def staging (st : SongStore) : Bank := if st.stagingIsBank0 then st.bank0 else st.bank1

/-- The bank with the playing role (R47). -/
def playing (st : SongStore) : Bank := if st.stagingIsBank0 then st.bank1 else st.bank0

/-- The store with the staging bank replaced. -/
def setStaging (st : SongStore) (b : Bank) : SongStore :=
  if st.stagingIsBank0 then { st with bank0 := b } else { st with bank1 := b }

/-- A discard: the bank cleared, the state EMPTY, no owner (R52). -/
def discard (st : SongStore) : SongStore := { st.setStaging Bank.cleared with state := .empty, owner := none }

/-- The song of the entry named is wanted, or none is (R50). -/
def want (st : SongStore) (head : Option Nat) : SongStore :=
  match head with
  | none => { st with state := .empty, owner := none }
  | some id => { st with state := .requested, owner := some id }

/-- The response to a named head: EMPTY has nothing to discard, every other state discards first (R52). -/
def nameHead (st : SongStore) (head : Option Nat) : SongStore :=
  (if st.state = .empty then st else st.discard).want head

/-- The bank swap at a start, with the new head named (R64). -/
def swap (st : SongStore) (head : Option Nat) : SongStore :=
  SongStore.want
    ({ st with stagingIsBank0 := !st.stagingIsBank0, state := .empty, owner := none }.setStaging Bank.cleared) head

/-- The staging snapshot: state, owner (0 for none) and stored counts (R53, section 11.4). -/
def snapshot (st : SongStore) : List Byte :=
  st.state.code :: byteOf (st.owner.getD 0) ::
    field2 st.staging.counts.lines ++ field2 st.staging.counts.syllables ++ field2 st.staging.counts.glyphs ++
      field2 st.staging.counts.notes

/-- A stage record is STALE when nothing is wanted or it does not name the owner (R54, R56, R59, R61, R62). -/
def isStale (st : SongStore) (entryId : Nat) : Bool := st.state == .empty || st.owner != some entryId

/-! ## STAGE OPEN -/

/-- The first check a STAGE OPEN fails, with the song number of the owner entry (R54). -/
def openRefusal (st : SongStore) (ownerSong : Nat) (h : BankHeader) : Option ResultCode :=
  if st.isStale h.entryId then some .stale
  else if h.lines > 256 ∨ h.syllables > 2048 ∨ h.glyphs > 8192 ∨ h.notes > 1024 then some .tooLarge
  else if h.step < 150 ∨ h.step > 2000 ∨ h.length = 0 ∨ h.length > Config.maxPlayTime ∨ h.lines = 0 ∨ h.syllables = 0 ∨
      h.glyphs = 0 ∨ h.song ≠ ownerSong ∨ h.impossible then some .badField
  else none

/-- The store after an accepted STAGE OPEN (R55). -/
def openLoad (st : SongStore) (h : BankHeader) : SongStore :=
  { st.setStaging { Bank.cleared with header := some h } with state := .loading }

/-! ## LINE -/

/-- The first check a LINE fails against a bank with header `h` (R56, R57). -/
def lineRefusal (st : SongStore) (l : LineFields) : Option ResultCode :=
  let b := st.staging
  if st.isStale l.entryId then some .stale
  else match b.header with
  | none => some .notLoading
  | some h =>
    if st.state ≠ .loading then some .notLoading
    else if l.index ≠ b.counts.lines then some .order
    else if l.start < b.marks.lastLineEnd then some .order
    else if !syllablesOrdered l.syllables then some .order
    else if b.counts.lines + 1 > h.lines ∨ b.counts.syllables + l.syllables.length > h.syllables ∨
        b.counts.glyphs + glyphTotal l.syllables > h.glyphs then some .tooLarge
    else if lineFieldsBad h.length l then some .badField
    else none

/-! ## NOTE -/

/-- The first check a NOTE fails (R59). -/
def noteRefusal (st : SongStore) (n : NoteFields) : Option ResultCode :=
  let b := st.staging
  if st.isStale n.entryId then some .stale
  else match b.header with
  | none => some .notLoading
  | some h =>
    if st.state ≠ .loading then some .notLoading
    else if n.index ≠ b.counts.notes then some .order
    else if n.start < b.marks.lastNoteStart then some .order
    else if overlaps b.marks n.start n.part then some .order
    else if b.counts.notes ≥ h.notes then some .tooLarge
    else if n.duration < 20 ∨ n.duration > 8000 ∨ n.number < 36 ∨ n.number > 84 ∨ n.part = none ∨
        n.start + n.duration > h.length then some .badField
    else none

/-! ## STAGE CLOSE -/

/-- The place check of a STAGE CLOSE (R61). -/
def closeRefusal (st : SongStore) (entryId : Nat) : Option ResultCode :=
  if st.isStale entryId then some .stale else if st.state ≠ .loading then some .notLoading else none

end SongStore

end Sys2Proof.Machine
end

