-- ==== Sys2Proof/Machine/Ops.lean ====
section
/-! DEFINITION. The operations that bind the blocks together: posting the directive, handing advances, the start, head
changes, history additions, finalisation, marks, the requests each block takes, and standby.

An operation that a line hands on returns the new state with the block's answer: the result code and the payload that
goes with OK.  An operation whose name ends in `Event` is a whole event at the deck or the staging controller and posts the directive at its
end. -/

namespace Sys2Proof.Machine.State

/-! ## Reset gates every event -/

/-- An event as the controller takes it: in reset and in the hold it takes none (R198). -/
def live (s : State) (event : State → State) : State := if s.running then event s else s

/-! ## Panel lines by name -/

/-- The unit of a panel line. -/
def panel (s : State) : PanelLine → PanelUnit
  | .a => s.panelA
  | .b => s.panelB

/-- The state with the unit of a panel line replaced. -/
def setPanel (s : State) (l : PanelLine) (u : PanelUnit) : State :=
  match l with
  | .a => s.setPanelA u
  | .b => s.setPanelB u

/-! ## The end of a desk transaction (R187, R191) -/

/-- The desk bus transaction has ended: IDLE, and the timeout is counted no more. -/
def endTransaction (s : State) : State := s.setDesk { s.desk with bus := .idle, busTimer := none }

/-! ## The directive (R51, R69, R180) -/

/-- The song number of the staging owner's entry (R51). -/
def ownerSong (s : State) : Nat :=
  match s.store.owner with
  | none => 0
  | some id =>
    match s.room.find id with
    | none => 0
    | some e => e.song

/-- The fields the deck and the staging controller post: the play fields of the deck state (R69), the stage fields of the
staging state (R51). -/
def directiveNow (s : State) : DirectiveFields :=
  { playOrder := s.deck.playOrder
    playId := if s.deck.state = .idle then 0 else s.deck.stopId
    playSong := if s.deck.state = .idle then 0 else s.deck.song
    keyShift := if s.deck.state = .idle then 0 else s.deck.key
    stageOrder := if s.store.state = .requested ∨ s.store.state = .loading then .load else .none
    stageId := if s.store.state = .requested ∨ s.store.state = .loading then s.store.owner.getD 0 else 0
    stageSong := if s.store.state = .requested ∨ s.store.state = .loading then s.ownerSong else 0 }

/-- The posting at the end of an event: fields that differ are taken and the change count advances by one, from 255 to 0
(R180). -/
def post (s : State) : State :=
  if s.directiveNow = s.port.directive then s
  else s.setPort { s.port with directive := s.directiveNow, changeCount := (s.port.changeCount + 1) % 256 }

/-! ## The followers of play time (R76) -/

/-- The lyric sequencer takes every advance it has been handed. -/
def lyricCatchUp (s : State) : State := s.setLyric (s.lyric.takeAll s.store.playing)

/-- The pitch grader takes every advance it has been handed. -/
def graderCatchUp (s : State) : State := s.setGrader (s.grader.takeAll s.store.playing.notes s.deck.key)

/-- The deck hands an advance of a kind, carrying play time, to both followers (R76). -/
def handAdvance (s : State) (kind : AdvanceKind) : State :=
  (s.setLyric (s.lyric.hand ⟨kind, s.deck.playTime⟩)).setGrader (s.grader.hand ⟨kind, s.deck.playTime⟩)

/-- The sequencer is told that a new song begins (R96): the advances handed before are taken first. -/
def lyricNewSong (s : State) : State :=
  s.lyricCatchUp.setLyric (s.lyricCatchUp.lyric.newSong s.desk.settings.lyric)

/-- The sequencer is told to drop the song (R115): the advances handed before are taken first. -/
def lyricDropSong (s : State) : State := s.lyricCatchUp.setLyric s.lyricCatchUp.lyric.dropSong

/-- The grader is told that a new song begins (R140), with the mic mode of the current entry.  Without a current entry no
song begins. -/
def graderNewSong (s : State) : State :=
  match s.deck.current with
  | none => s.graderCatchUp
  | some e => s.graderCatchUp.setGrader (s.graderCatchUp.grader.newSong s.store.playing.notes e.micMode)

/-- The grader is asked for final scores at play time `t` (R151): the advances handed before are taken first (R76). -/
def graderFinalScores (s : State) (t : Nat) : State :=
  s.graderCatchUp.setGrader (s.graderCatchUp.grader.finalScores s.store.playing.notes s.deck.key t)

/-- The grader is told that the song ended without scores (R89, step 2). -/
def graderSongEnded (s : State) : State := s.graderCatchUp.setGrader s.graderCatchUp.grader.songEnded

/-- The grader is told to discard the song (R158). -/
def graderDiscard (s : State) : State := s.graderCatchUp.setGrader s.graderCatchUp.grader.discard

/-! ## The start (R17, R64, R70, R71) -/

/-- Every start condition but the fourth: IDLE, out of standby, unlocked, a head, READY (R70). -/
def startReady (s : State) : Bool :=
  s.deck.state == .idle && !s.desk.standby && !s.room.locked && !s.room.entries.isEmpty && s.store.state == .ready

/-- The start of entry `e` with `rest` behind it (R71).  The followers take what they were handed for the song before,
while its bank still has the playing role (log entry 10). -/
def startEntry (s : State) (e : Entry) (rest : List Entry) : State :=
  let caught := s.lyricCatchUp.graderCatchUp
  let queued := (caught.setRoom { caught.room with entries := rest, shortage := false }).raise .queueChanged
  let swapped := queued.setStore (queued.store.swap queued.room.headId)
  (swapped.setDeck (swapped.deck.startWith e)).lyricNewSong.graderNewSong

/-- The start of the head; an empty queue has none. -/
def start (s : State) : State :=
  match s.room.entries with
  | [] => s
  | e :: rest => s.startEntry e rest

/-- A re-examination finds a credit shortage: CREDITS_OUT and the shortage mark, once (R20). -/
def noteShortage (s : State) : State :=
  if s.room.shortage then s else (s.setRoom { s.room with shortage := true }).raise .creditsOut

/-- The start conditions are re-examined (R20, R70). -/
def reexamine (s : State) : State :=
  if s.startReady then (if s.room.mayStart then s.start else s.noteShortage) else s

/-- A re-examination as an event of its own: a start posts the directive. -/
def reexamineEvent (s : State) : State :=
  if s.startReady && s.room.mayStart then s.start.post else s.reexamine

/-! ## Head changes and queue events (R8, R16, R52) -/

/-- The end of an event that altered a queue whose head was `before`: a head change names the new head to staging, and
the deck re-examines (R16, R17, R52). -/
def headEvent (s : State) (before : Option Nat) : State :=
  if s.room.headId = before then s else (s.setStore (s.store.nameHead s.room.headId)).reexamine.post

/-- An accepted change of the queue: QUEUE_CHANGED, then the head change if there is one. -/
def queueEvent (s : State) (room : RoomQueue) : State :=
  ((s.setRoom room).raise .queueChanged).headEvent s.room.headId

/-- The ids in use: queue entries, the current entry, history records, the staging owner (R4). -/
def idsInUse (s : State) : List Nat :=
  s.room.entries.map (·.id) ++ s.deck.current.toList.map (·.id) ++ s.results.history.map (·.id) ++ s.store.owner.toList

/-- A submission (R7, R8). -/
def submit (s : State) (o : Origin) (priority : Bool) (r : SongRequest) : State × Answer :=
  if o ≠ .desk ∧ s.room.locked then (s, .bare .locked)
  else if s.room.entries.length ≥ Config.queueCapacity then (s, .bare .full)
  else if o ≠ .desk ∧ s.room.quota ≤ s.room.heldBy o then (s, .bare .quota)
  else if r.song = 0 ∨ r.song > Config.maxSong then (s, .bare .badField)
  else match r.mode with
  | none => (s, .bare .badField)
  | some mode =>
    let e := s.room.newEntry s.idsInUse o priority r mode
    let behind := s.room.placeBehind priority
    (s.queueEvent (s.room.enrol e behind), ⟨.ok, [byteOf e.id, byteOf (behind + 1)]⟩)

/-- A panel cancel (R9). -/
def cancel (s : State) (o : Origin) (id : Nat) : State × Answer :=
  match s.room.find id with
  | none => (s, .bare .notFound)
  | some e => if e.origin ≠ o then (s, .bare .notYours) else (s.queueEvent (s.room.remove id), .bare .ok)

/-- An accepted move of a normal entry: at its own position nothing changes (R11). -/
def moveEntry (s : State) (e : Entry) (target : Nat) : State × Answer :=
  let position := s.room.moveTarget target
  (if position = s.room.positionOf e.id then s else s.queueEvent (s.room.moveTo e position),
    ⟨.ok, [byteOf position]⟩)

/-- A panel move (R10, R11). -/
def panelMove (s : State) (o : Origin) (id target : Nat) : State × Answer :=
  if s.room.locked then (s, .bare .locked)
  else match s.room.find id with
  | none => (s, .bare .notFound)
  | some e =>
    if e.origin ≠ o then (s, .bare .notYours)
    else if e.priority then (s, .bare .badField)
    else s.moveEntry e target

/-- A desk move (R10, R11). -/
def deskMove (s : State) (id target : Nat) : State × Answer :=
  match s.room.find id with
  | none => (s, .bare .notFound)
  | some e => if e.priority then (s, .bare .badField) else s.moveEntry e target

/-- A desk promote (R12). -/
def promoteId (s : State) (id : Nat) : State × Answer :=
  match s.room.find id with
  | none => (s, .bare .notFound)
  | some e =>
    if e.priority then (s, ⟨.ok, [byteOf (s.room.positionOf id)]⟩)
    else (s.queueEvent (s.room.promoteEntry e), ⟨.ok, [byteOf (s.room.priorityCount + 1)]⟩)

/-- A desk remove (R13). -/
def removeId (s : State) (id : Nat) : State × Answer :=
  match s.room.find id with
  | none => (s, .bare .notFound)
  | some _ => (s.queueEvent (s.room.remove id), .bare .ok)

/-! ## The room account (R18, R20, R21) -/

/-- The account changed by the desk: a change of the credits or of the unlimited flag is re-examined (R70). -/
def accountEvent (s : State) (room : RoomQueue) : State :=
  if room.credits = s.room.credits ∧ room.unlimited = s.room.unlimited then s.setRoom room
  else (s.setRoom room).reexamineEvent

/-- LOCK (R21). -/
def lockRoom (s : State) : State := s.setRoom { s.room with locked := true }

/-- UNLOCK: the start conditions are re-examined (R21). -/
def unlockRoom (s : State) : State := (s.setRoom { s.room with locked := false }).reexamineEvent

/-! ## History additions (R163, R165, R166) -/

/-- A record is added: SONG_DONE, and BOARD_CHANGED if the board takes it. -/
def addRecord (s : State) (r : HistoryRecord) : State :=
  let added := (s.setResults (s.results.add r)).raise .songDone
  if s.results.inserts r then added.raise .boardChanged else added

/-- The record of an entry with an outcome and nothing graded (R162). -/
def ungradedRecord (e : Entry) (outcome : SongOutcome) : HistoryRecord :=
  { id := e.id, song := e.song, singer := e.singer, origin := e.origin, priority := e.priority, micMode := e.micMode,
    keyShift := e.keyShift, outcome := outcome, scoreA := none, scoreB := none, entryScore := none, invalid := false,
    countsA := none, countsB := none, duration := 0, finish := 0 }

/-- The record of an entry that reached playing: as the grader's final report gives it (R89, R162). -/
def gradedRecord (e : Entry) (outcome : SongOutcome) (duration : Nat) (report : Option FinalReport) : HistoryRecord :=
  match report with
  | none => { ungradedRecord e outcome with duration := duration }
  | some f =>
    { ungradedRecord e outcome with
      scoreA := f.scoreA, scoreB := f.scoreB, entryScore := f.entryScore, invalid := f.invalid, countsA := f.countsA,
      countsB := f.countsB, duration := duration }

/-! ## Stage records (R54 to R62) -/

/-- The answer of the staging controller: a code with the snapshot after the event (R53). -/
def stagingAnswer (s : State) (code : ResultCode) : State × Answer := (s, ⟨code, s.store.snapshot⟩)

/-- STAGE OPEN (R54, R55). -/
def stageOpenEvent (s : State) (h : BankHeader) : State × Answer :=
  match s.store.openRefusal s.ownerSong h with
  | some code => s.stagingAnswer code
  | none => (s.setStore (s.store.openLoad h)).post.stagingAnswer .ok

/-- LINE (R56 to R58). -/
def stageLineEvent (s : State) (l : LineFields) : State × Answer :=
  match s.store.lineRefusal l, l.part with
  | some code, _ => s.stagingAnswer code
  | none, none => s.stagingAnswer .badField
  | none, some part => (s.setStore (s.store.setStaging (s.store.staging.storeLine l part))).stagingAnswer .ok

/-- NOTE (R59, R60). -/
def stageNoteEvent (s : State) (n : NoteFields) : State × Answer :=
  match s.store.noteRefusal n, n.part with
  | some code, _ => s.stagingAnswer code
  | none, none => s.stagingAnswer .badField
  | none, some part => (s.setStore (s.store.setStaging (s.store.staging.storeNote n part))).stagingAnswer .ok

/-- STAGE CLOSE: READY and a re-examination when the counts agree; else cleared and REQUESTED, with the snapshot from
before the clearing (R61). -/
def stageCloseEvent (s : State) (entryId : Nat) : State × Answer :=
  match s.store.closeRefusal entryId with
  | some code => s.stagingAnswer code
  | none =>
    if s.store.staging.countsAgree then
      (s.setStore { s.store with state := .ready }).reexamine.post.stagingAnswer .ok
    else
      (s.setStore { s.store.setStaging Bank.cleared with state := .requested }, ⟨.countMismatch, s.store.snapshot⟩)

/-- STAGE FAIL: the owner leaves the queue with a NO_STAGE record, and the next head is named (R14, R62). -/
def stageFailEvent (s : State) (entryId : Nat) : State × Answer :=
  if s.store.isStale entryId then s.stagingAnswer .stale
  else match s.room.find entryId with
  | none => s.stagingAnswer .ok
  | some e => ((s.addRecord (ungradedRecord e .noStage)).queueEvent (s.room.remove entryId)).stagingAnswer .ok

/-! ## Finalisation and the return to IDLE (R89, R90) -/

/-- Finalisation of the current entry with an outcome at final play time `t` (R89): final scores or none, the record, and
the entry a finished one. -/
def finalise (s : State) (outcome : SongOutcome) (t : Nat) : State :=
  match s.deck.current with
  | none => s
  | some e =>
    if s.deck.reached then
      let graded := s.graderFinalScores t
      (graded.setDeck graded.deck.finishEntry).addRecord (gradedRecord e outcome t graded.grader.report)
    else
      let ended := s.graderSongEnded
      (ended.setDeck ended.deck.finishEntry).addRecord (ungradedRecord e outcome)

/-- The deck returns to IDLE, re-examines, and posts (R67, R69, R90, R91). -/
def idleEvent (s : State) : State := (s.setDeck s.deck.toIdle).reexamine.post

/-- The song is ended by the deck with an outcome: finalised at the present play time, or at 0 without scores in
STARTING, then STOPPING (R73, R81, R88). -/
def endSong (s : State) (outcome : SongOutcome) : State :=
  (s.setDeck s.deck.enterStopping).finalise outcome (if s.deck.state = .starting then 0 else s.deck.playTime)

/-! ## Time marks (R72, R74, R77, R79, R83, R86, R91) -/

/-- A RUN mark at `m` for the stop id (R72, R77, R83, R91). -/
def takeRun (s : State) (m : Nat) : State × ResultCode :=
  match s.deck.state with
  | .idle => (s, .stale)
  | .starting =>
    let marked := s.setDeck (s.deck.firstMark m)
    ((marked.setRoom marked.room.takeCredit).handAdvance (Deck.riseKind 0 m), .ok)
  | .playing => ((s.setDeck (s.deck.runMark m)).handAdvance (s.deck.markKind m), .ok)
  | .stalled => ((s.setDeck (s.deck.runMark m)).handAdvance (s.deck.markKind m), .ok)
  | .paused => (s.setDeck (s.deck.pausedMark m), .ok)
  | .stopping => (s, if s.deck.reached then .ok else .stale)

/-- An END mark at `m` for the stop id (R74, R86, R91). -/
def takeEnd (s : State) (m : Nat) : State × ResultCode :=
  match s.deck.state with
  | .idle => (s, .stale)
  | .starting => ((s.finalise .noStart 0).idleEvent, .ok)
  | .playing =>
    let marked := (s.setDeck (s.deck.runMark m)).handAdvance (s.deck.markKind m)
    ((marked.finalise .completed marked.deck.playTime).idleEvent, .ok)
  | .stalled =>
    let marked := (s.setDeck (s.deck.runMark m)).handAdvance (s.deck.markKind m)
    ((marked.finalise .completed marked.deck.playTime).idleEvent, .ok)
  | .paused =>
    let marked := s.setDeck (s.deck.pausedMark m)
    ((marked.finalise .completed marked.deck.playTime).idleEvent, .ok)
  | .stopping => (s.idleEvent, .ok)

/-- A time mark: an entry id, a media time and a kind byte, checked and taken by its kind (R79). -/
def takeMark (s : State) (entryId m : Nat) (kind : Byte) : State × Answer :=
  let taken : State × ResultCode :=
    if s.deck.state = .idle ∨ entryId ≠ s.deck.stopId then (s, .stale)
    else if m > Config.maxPlayTime then (s, .badField)
    else match markKindOf kind with
    | none => (s, .badField)
    | some .run => s.takeRun m
    | some .finish => s.takeEnd m
  (taken.1, ⟨taken.2, taken.1.deck.snapshot⟩)

/-! ## Requests at the deck (R82, R84, R85, R87, R88) -/

/-- HOLD (R82). -/
def holdEvent (s : State) : State × Answer :=
  if s.deck.state = .playing ∨ s.deck.state = .stalled then ((s.setDeck s.deck.holdNow).post, .bare .ok)
  else (s, .bare .notPlaying)

/-- GO (R84). -/
def goEvent (s : State) : State × Answer :=
  if s.deck.state = .paused then (((s.setDeck s.deck.goNow).handAdvance s.deck.goKind).post, .bare .ok)
  else (s, .bare .notPaused)

/-- KEY with a delta as received; the line clamps it to −12 to +12 (R41, R85). -/
def keyEvent (s : State) (delta : Int) : State × Answer :=
  if s.deck.state = .playing ∨ s.deck.state = .paused ∨ s.deck.state = .stalled then
    let changed := s.setDeck (s.deck.changeKey (max (-12) (min 12 delta)))
    (changed.post, ⟨.ok, [signedByte changed.deck.key]⟩)
  else (s, .bare .notPlaying)

/-- SKIP NOW (R87, R88). -/
def skipEvent (s : State) (entryId : Nat) : State × Answer :=
  if !s.desk.settings.skipAllowed then (s, .bare .noSkip)
  else if s.deck.state = .idle ∨ s.deck.state = .stopping then (s, .bare .notPlaying)
  else if s.deck.current.map (·.id) ≠ some entryId then (s, .bare .stale)
  else ((s.endSong .skipped).post, .bare .ok)

/-- STOP SONG (R87, R88). -/
def stopSongEvent (s : State) : State × Answer :=
  if s.deck.state = .idle ∨ s.deck.state = .stopping then (s, .bare .notPlaying)
  else ((s.endSong .stopped).post, .bare .ok)

/-! ## ROOM CLEAR (R23, R92, R169, R202) -/

/-- The deck's part of ROOM CLEAR, with the followers' (R92, R115, R158). -/
def clearDeck (s : State) : State :=
  match s.deck.state with
  | .idle => s
  | .stopping => s.setDeck { s.deck with reached := false }
  | .starting | .playing | .paused | .stalled =>
    let dropped := s.graderDiscard.lyricDropSong
    dropped.setDeck { dropped.deck.enterStopping.finishEntry with reached := false }

/-- ROOM CLEAR (R202). -/
def roomClearEvent (s : State) : State :=
  let queue := (s.setRoom s.room.cleared).raise .queueChanged
  let staged := queue.setStore (queue.store.nameHead none)
  let dropped := staged.clearDeck
  ((dropped.setResults dropped.results.cleared).raise .boardChanged).post

/-! ## Standby (R135, R136, R200, R201) -/

/-- STANDBY (R200). -/
def standbyEvent (s : State) : State × Answer :=
  if s.desk.standby then (s, .bare .ok)
  else if s.deck.state ≠ .idle then (s, .bare .busy)
  else ((s.setDesk { s.desk with standby := true }).setFront s.front.turnOff, .bare .ok)

/-- Leaving standby: standby ends, WOKE, the wake settle, and a re-examination (R201). -/
def leaveStandby (s : State) : State :=
  (((s.setDesk { s.desk with standby := false }).raise .woke).setFront s.front.settle).reexamineEvent

/-! ## Pitch samples (R133, R134) -/

/-- Whether a mic mode hands on a microphone's samples (R134). -/
def scores (mode : MicMode) (m : Mic) : Bool :=
  match mode, m with
  | .soloA, .a => true
  | .soloA, .b => false
  | .soloB, .a => false
  | .soloB, .b => true
  | .duet, _ => true

/-- An accepted sample is handed to the grader while the deck is PLAYING and the current entry's mic mode scores its
microphone; otherwise it is discarded (R133, R134). -/
def routeSample (s : State) (m : Mic) (p : Nat) : State :=
  match s.deck.current with
  | none => s
  | some e =>
    if s.deck.state = .playing ∧ scores e.micMode m then s.setGrader (s.grader.takeSample m p) else s

end Sys2Proof.Machine.State
end

