-- ==== Sys2Proof/Machine/ResetUnit.lean ====
section
/-! DEFINITION. Entering and leaving reset (R198, R199). -/

namespace Sys2Proof.Machine

namespace ResetUnit

/-- POWER_ON: the supply becomes valid after a loss of power, and the start-up hold begins (R198). -/
def powerOn (r : ResetUnit) : ResetUnit :=
  { r with inReset := true, cause := .powerOn, supplyValid := true, startupHold := true, holdFromPowerOn := true,
           holdTimer := some Config.startupHoldTicks }

/-- LOW_SUPPLY: recorded, but for one during a hold that POWER_ON began, which restarts that hold and leaves POWER_ON
recorded; the hold counts again from the supply's recovery (R198). -/
def lowSupply (r : ResetUnit) : ResetUnit :=
  if r.inReset && r.startupHold && r.holdFromPowerOn then { r with supplyValid := false, holdTimer := none }
  else
    { r with inReset := true, cause := .lowSupply, supplyValid := false, startupHold := true, holdFromPowerOn := false,
             holdTimer := none }

/-- RESET_PIN: RSTN is asserted; a hold in progress gives way to the pin's own way of leaving reset (R198). -/
def resetPin (r : ResetUnit) : ResetUnit :=
  { r with inReset := true, cause := .resetPin, pinHeld := true, startupHold := false, holdFromPowerOn := false,
           holdTimer := none }

/-- DESK_RESET: 4096 crystal cycles after the command (R198, R199). -/
def deskReset (r : ResetUnit) : ResetUnit :=
  { r with inReset := true, cause := .deskReset, startupHold := false, holdFromPowerOn := false,
           holdTimer := none }

/-- SUPPLY_RECOVERY: after a low supply the supply is valid again and the start-up hold begins (R198). -/
def recover (r : ResetUnit) : ResetUnit :=
  if r.inReset && !r.supplyValid then
    { r with supplyValid := true, startupHold := true, holdTimer := some Config.startupHoldTicks }
  else r

/-- A millisecond tick in reset: a hold that runs counts it, and the last tick ends the hold, whether or not RSTN still keeps
the controller in reset (R198, log entry 15). -/
def tick (r : ResetUnit) : ResetUnit :=
  match r.holdTimer with
  | none => r
  | some left =>
    if 1 < left then { r with holdTimer := some (left - 1) }
    else { r with startupHold := false, holdFromPowerOn := false, holdTimer := none }

/-- RSTN_RELEASE (R198). -/
def release (r : ResetUnit) : ResetUnit := { r with pinHeld := false }

/-- Whether nothing but time keeps the controller in reset: RSTN is released and the supply is valid (R198). -/
def mayLeave (r : ResetUnit) : Bool := r.inReset && !r.pinHeld && r.supplyValid

end ResetUnit

/-- The controller as it leaves reset: every block at its reset values, the address-select pins sampled, RESET_SEEN set,
the recorded cause kept (R187, R198, R204).  The levels of the input pins and the queue of waiting commands are not the
controller's to reset. -/
def afterReset (addressSelect : BitVec 2) (s : State) : State :=
  { State.reset with
    pending := s.pending
    panelA := PanelUnit.atReset s.panelA.lineHigh
    panelB := PanelUnit.atReset s.panelB.lineHigh
    port := MediaPort.atReset s.port.selectHigh
    desk := DeskUnit.atReset (Config.busAddressBase + addressSelect.toNat)
    resetUnit := ResetUnit.released s.resetUnit.cause }

end Sys2Proof.Machine
end

