-- ==== Sys2Proof/Machine/ClockCommands.lean ====
section
/-! DEFINITION. The millisecond tick, the timers' expiries, and the clocks of the media port and the desk bus (R73, R76, R80,
R81, R91, R123, R136, R174, R191, R198). -/

namespace Sys2Proof.Machine

/-! ## The clocks that the partners drive (R174, R175, R191) -/

/-- A byte completed on MDO: the next one is made ready, and after the answer's check the port is TRAILING (R174, R175). -/
def MediaPort.clockByte (m : MediaPort) : MediaPort :=
  match m.state with
  | .waitHigh => m
  | .unselected => m
  | .command => { m with place := m.place + 1 }
  | .answer =>
    if m.place + 1 < m.lastAnswer.bytes.length then { m with place := m.place + 1 }
    else { m with state := .trailing, place := 0 }
  | .trailing => m

/-- A falling edge of DSCL: in WRITING and READING the bus timeout counts again from it, unless its time has already passed
(R191). -/
def DeskUnit.clockFall (u : DeskUnit) : DeskUnit :=
  if u.bus = .idle ∨ u.busTimer = some 0 then u else { u with busTimer := some Config.busTimeout }

/-- What a step does with no command waiting: a byte is clocked at the media port and DSCL falls, where a transaction is in
progress on that line (log entry 2). -/
def State.clockLines (s : State) : State := (s.setPort s.port.clockByte).setDesk s.desk.clockFall

/-! ## The millisecond tick and the expiries -/

/-- The stall timer's expiry: play time frozen, STALLED, STALL set, the stall-limit timer armed (R80). -/
def stallExpiry (s : State) : State := (s.setDeck s.deck.stall).raise .stall

/-- The deck's part of a tick: the timers count; in PLAYING E counts and a STEP is handed, and the tick that runs the stall
timer out is its expiry (R76, R80). -/
def tickDeck (s : State) : State :=
  let counted := s.setDeck s.deck.tick
  if s.deck.state = .playing then
    if counted.deck.stallDue then stallExpiry (counted.handAdvance .step) else counted.handAdvance .step
  else counted

/-- The desk line unit's part of a tick: the bus timeout is counted in WRITING and READING (R191). -/
def tickDesk (s : State) : State :=
  if s.desk.bus = .idle then s else s.setDesk { s.desk with busTimer := s.desk.busTimer.map (· - 1) }

/-- A millisecond tick at every block that counts on it. -/
def tick (s : State) : State := tickDeck (tickDesk (s.setFront s.front.tick))

/-- MILLISECOND_TICK (R76, R80, R123); in reset the start-up hold alone is counted (R198). -/
def execMillisecondTick (s : State) : Host.Outcome State Fault Refusal :=
  .next (if s.running then tick s else s.setResetUnit s.resetUnit.tick)

/-- START_TIMER_EXPIRY (R73): the start timer has run out in STARTING. -/
def execStartTimerExpiry (s : State) : Host.Outcome State Fault Refusal :=
  .next <| s.live fun s =>
    if s.deck.state = .starting ∧ s.deck.startTimer = some 0 then (s.endSong .noStart).post else s

/-- STALL_TIMER_EXPIRY (R80): the expiry is the tick that brings E to 500, so the row is that tick; log entry 6. -/
def execStallTimerExpiry (s : State) : Host.Outcome State Fault Refusal :=
  .next <| s.live fun s =>
    if s.deck.state = .playing ∧ s.deck.stallTimer = some 1 then tick s
    else if s.deck.stallDue then stallExpiry s
    else s

/-- STALL_LIMIT_EXPIRY (R81): the stall-limit timer has run out in STALLED. -/
def execStallLimitExpiry (s : State) : Host.Outcome State Fault Refusal :=
  .next <| s.live fun s =>
    if s.deck.state = .stalled ∧ s.deck.stallLimit = some 0 then ((s.endSong .mediaLost).raise .mediaLost).post else s

/-- STOP_TIMER_EXPIRY (R91): the stop timer has run out in STOPPING. -/
def execStopTimerExpiry (s : State) : Host.Outcome State Fault Refusal :=
  .next <| s.live fun s =>
    if s.deck.state = .stopping ∧ s.deck.stopTimer = some 0 then s.idleEvent else s

/-- SETTLE_TIMER_EXPIRY (R136): the settle timer has run out in SETTLING. -/
def execSettleTimerExpiry (s : State) : Host.Outcome State Fault Refusal :=
  .next <| s.live fun s =>
    if s.front.activity = .settling ∧ s.front.settleTimer = some 0 then s.setFront s.front.settled else s

/-- DESK_BUS_TIMEOUT (R191): the transaction is abandoned, nothing is taken, and the reply record is kept. -/
def execDeskBusTimeout (s : State) : Host.Outcome State Fault Refusal :=
  .next <| s.live fun s =>
    if s.desk.bus ≠ .idle ∧ s.desk.busTimer = some 0 then s.endTransaction.raise .deskTimeout else s

end Sys2Proof.Machine
end

