-- ==== Sys2Proof/Machine/DeskCommands.lean ====
section
/-! DEFINITION. The desk rows of the table: the bus conditions and the commands of every kind (chapter 10). -/

namespace Sys2Proof.Machine

/-! ## Configuration (R194 to R196) -/

/-- The value of a configuration item as CONFIG READ reports it. -/
def configValue (s : State) : ConfigItem → Nat
  | .rows => s.desk.settings.lyric.rows
  | .lead => s.desk.settings.lyric.lead
  | .hold => s.desk.settings.lyric.hold
  | .scroll => s.desk.settings.lyric.scroll
  | .gap => s.desk.settings.lyric.gap
  | .openThreshold => s.desk.settings.openThreshold
  | .closeThreshold => s.desk.settings.closeThreshold
  | .baud => s.desk.settings.baud.baud
  | .skipAllowed => (yesNo s.desk.settings.skipAllowed).toNat
  | .wakeOnPanel => (yesNo s.desk.settings.wakeOnPanel).toNat
  | .quota => s.room.quota

/-- The state with the settings replaced. -/
def setSettings (s : State) (c : Settings) : State := s.setDesk { s.desk with settings := c }

/-- A changed panel baud is pending on both lines (R45). -/
def setBaud (s : State) (r : Rate) : State :=
  let set := setSettings s { s.desk.settings with baud := r }
  if r = s.desk.settings.baud then set
  else (set.setPanelA (s.panelA.setPendingRate r)).setPanelB (s.panelB.setPendingRate r)

/-- The configuration with one item set to a requested value, clamped as its range asks (R194, R195). -/
def configure (s : State) (item : ConfigItem) (v : Nat) : State :=
  let c := s.desk.settings
  match item with
  | .rows => setSettings s { c with lyric := { c.lyric with rows := clamp v 2 4 } }
  | .lead => setSettings s { c with lyric := { c.lyric with lead := clamp v 500 8000 } }
  | .hold => setSettings s { c with lyric := { c.lyric with hold := clamp v 0 2000 } }
  | .scroll => setSettings s { c with lyric := { c.lyric with scroll := clamp v 100 1000 } }
  | .gap => setSettings s { c with lyric := { c.lyric with gap := clamp v 2000 20000 } }
  | .openThreshold =>
    setSettings s { c with openThreshold := clamp v 0 1023, closeThreshold := min c.closeThreshold (clamp v 0 1023) }
  | .closeThreshold => setSettings s { c with closeThreshold := min (clamp v 0 1023) c.openThreshold }
  | .baud => setBaud s (rateOf v)
  | .skipAllowed => setSettings s { c with skipAllowed := decide (v ≠ 0) }
  | .wakeOnPanel => setSettings s { c with wakeOnPanel := decide (v ≠ 0) }
  | .quota => s.setRoom { s.room with quota := clamp v 0 32 }

/-- The reply payload of CONFIG SET: item, value taken, both thresholds (R195, section 11.5). -/
def configReply (s : State) (item : ConfigItem) : List Byte :=
  item.code :: field2 (configValue s item) ++ field2 s.desk.settings.openThreshold ++
    field2 s.desk.settings.closeThreshold

/-! ## What each command's owner does: the new state and the answer (section 10.6) -/

/-- The 12 bytes of the status report (R197, section 11.5). -/
def statusBytes (s : State) : List Byte :=
  [s.resetUnit.cause.code, s.deck.state.code, yesNo s.desk.standby, yesNo s.room.unlimited] ++
    field2 s.room.credits ++ [yesNo s.room.locked, byteOf s.room.quota, byteOf s.room.entries.length] ++
    field2 s.lyric.forced ++ [0#8]

/-- STATUS (R197). -/
def statusCommand (s : State) : State × Answer := (s, ⟨.ok, statusBytes s⟩)

/-- READ EVENTS (R193). -/
def readEventsCommand (s : State) : State × Answer :=
  (s, ⟨.ok, field2 s.desk.flags.toWord ++ field2 s.desk.mask.toWord⟩)

/-- ACK EVENTS (R193). -/
def ackEventsCommand (p : List Byte) (s : State) : State × Answer :=
  let left := s.desk.flags.without (EventFlags.ofWord (fieldAt p 0 2))
  (s.setDesk { s.desk with flags := left }, ⟨.ok, field2 left.toWord⟩)

/-- EVENT MASK (R193). -/
def eventMaskCommand (p : List Byte) (s : State) : State × Answer :=
  let mask := EventFlags.ofWord (fieldAt p 0 2)
  (s.setDesk { s.desk with mask := mask }, ⟨.ok, field2 mask.toWord⟩)

/-- The answer that reports the account an account command leaves (R18). -/
def accountAnswer (room : RoomQueue) : Answer := ⟨.ok, room.accountPayload⟩

/-- CREDITS SET (R18). -/
def creditsSetCommand (p : List Byte) (s : State) : State × Answer :=
  let room := s.room.setCredits (fieldAt p 0 2)
  (s.accountEvent room, accountAnswer room)

/-- CREDITS ADD (R18). -/
def creditsAddCommand (p : List Byte) (s : State) : State × Answer :=
  let room := s.room.addCredits (fieldAt p 0 2)
  (s.accountEvent room, accountAnswer room)

/-- CREDITS UNLIMITED (R18). -/
def creditsUnlimitedCommand (p : List Byte) (s : State) : State × Answer :=
  let room := s.room.setUnlimited (isYes (byteAt p 0))
  (s.accountEvent room, accountAnswer room)

/-- LOCK (R21). -/
def lockCommand (s : State) : State × Answer := (s.lockRoom, ⟨.ok, [yesNo true]⟩)

/-- UNLOCK (R21). -/
def unlockCommand (s : State) : State × Answer := (s.unlockRoom, ⟨.ok, [yesNo false]⟩)

/-- CONFIG SET (R194, R195). -/
def configSetCommand (p : List Byte) (s : State) : State × Answer :=
  match configItemOf (byteAt p 0) with
  | none => (s, .bare .badField)
  | some item =>
    (configure s item (fieldAt p 1 2), ⟨.ok, configReply (configure s item (fieldAt p 1 2)) item⟩)

/-- CONFIG READ: every item in item order (R196). -/
def configReadCommand (s : State) : State × Answer :=
  (s, ⟨.ok, ConfigItem.all.flatMap fun item => field2 (configValue s item)⟩)

/-- INSERT PRIORITY: a priority submission from the desk (R7, R8). -/
def insertPriorityCommand (p : List Byte) (s : State) : State × Answer := s.submit .desk true (songRequestOf p)

/-- PROMOTE (R12). -/
def promoteCommand (p : List Byte) (s : State) : State × Answer := s.promoteId (byteAt p 0).toNat

/-- MOVE (R10, R11). -/
def moveCommand (p : List Byte) (s : State) : State × Answer := s.deskMove (byteAt p 0).toNat (byteAt p 1).toNat

/-- REMOVE (R13). -/
def removeCommand (p : List Byte) (s : State) : State × Answer := s.removeId (byteAt p 0).toNat

/-- STOP SONG (R87, R88). -/
def stopSongCommand (s : State) : State × Answer := s.stopSongEvent

/-- READ QUEUE: a page of at most eight entries (R15, R203). -/
def readQueueCommand (p : List Byte) (s : State) : State × Answer :=
  (s, ⟨.ok, s.room.pageBytes (byteAt p 0).toNat 8⟩)

/-- READ HISTORY: a page of at most four full records (R170). -/
def readHistoryCommand (p : List Byte) (s : State) : State × Answer :=
  (s, ⟨.ok, s.results.pageBytes (byteAt p 0).toNat 4 Results.recordBytes⟩)

/-- READ BOARD (R171). -/
def readBoardCommand (s : State) : State × Answer := (s, ⟨.ok, s.results.boardPage⟩)

/-- READ LINE COUNTERS: both lines' counters, then cleared if the option asks (R31, R203). -/
def readLineCountersCommand (p : List Byte) (s : State) : State × Answer :=
  (if isYes (byteAt p 0) then
      (s.setPanelA { s.panelA with counters := LineCounters.zero }).setPanelB
        { s.panelB with counters := LineCounters.zero }
    else s,
    ⟨.ok, s.panelA.counters.bytes ++ s.panelB.counters.bytes⟩)

/-- NEW SESSION: BOARD_CHANGED only if the board held a record (R168). -/
def newSessionCommand (s : State) : State × Answer :=
  let emptied := s.setResults Results.newSession
  (if s.results.board.isEmpty then emptied else emptied.raise .boardChanged, .bare .ok)

/-- ROOM CLEAR (R202). -/
def roomClearCommand (s : State) : State × Answer := (s.roomClearEvent, .bare .ok)

/-- STANDBY (R200). -/
def standbyCommand (s : State) : State × Answer := s.standbyEvent

/-- WAKE (R201): out of standby it changes nothing. -/
def wakeCommand (s : State) : State × Answer := (if s.desk.standby then s.leaveStandby else s, .bare .ok)

/-- DESK RESET (R199). -/
def deskResetCommand (s : State) : State × Answer := (s.setResetUnit s.resetUnit.deskReset, .bare .ok)

/-- The command handed to its owning block (section 10.6). -/
def deskOwner (k : DeskKind) (p : List Byte) (s : State) : State × Answer :=
  match k with
  | .status => statusCommand s
  | .readEvents => readEventsCommand s
  | .ackEvents => ackEventsCommand p s
  | .eventMask => eventMaskCommand p s
  | .creditsSet => creditsSetCommand p s
  | .creditsAdd => creditsAddCommand p s
  | .creditsUnlimited => creditsUnlimitedCommand p s
  | .lock => lockCommand s
  | .unlock => unlockCommand s
  | .configSet => configSetCommand p s
  | .configRead => configReadCommand s
  | .insertPriority => insertPriorityCommand p s
  | .promote => promoteCommand p s
  | .move => moveCommand p s
  | .remove => removeCommand p s
  | .stopSong => stopSongCommand s
  | .readQueue => readQueueCommand p s
  | .readHistory => readHistoryCommand p s
  | .readBoard => readBoardCommand s
  | .readLineCounters => readLineCountersCommand p s
  | .newSession => newSessionCommand s
  | .roomClear => roomClearCommand s
  | .standby => standbyCommand s
  | .wake => wakeCommand s
  | .deskReset => deskResetCommand s

/-! ## The end of a write (R188, R189) -/

/-- The desk line unit's own checks, in order: the code of the first that fails, or the kind to hand on (R189). -/
def deskCheck (kind : Byte) (fields : List Byte) : Except ResultCode DeskKind :=
  if fields.length + 1 > Config.deskWriteLimit then .error .badField
  else match deskKindOf kind with
  | none => .error .badKind
  | some k => if fields.length = k.length then .ok k else .error .badField

/-- The reply replaces the reply record; a reset empties it (R188, R199). -/
def replyWith (kind : Byte) (r : State × Answer) : State :=
  r.1.setDesk { r.1.desk with reply := if r.1.running then some ⟨r.2.code, kind, r.2.payload⟩ else none }

/-- A write with bytes stored ends: one command is taken, in WRITING only (R188). -/
def takeWrite (kind : Byte) (fields : List Byte) (s : State) : State :=
  if s.desk.bus ≠ .writing then s
  else match deskCheck kind fields with
  | .error code => replyWith kind (s.endTransaction, .bare code)
  | .ok k => replyWith kind (deskOwner k fields s.endTransaction)

/-! ## The meanings -/

/-- DESK_START_CONDITION (R187, R191): an address that matches is acknowledged and the timeout starts to count; a
transaction in progress, with no byte stored, has ended. -/
def execDeskStartCondition (addressByte : Byte) (s : State) : Host.Outcome State Fault Refusal :=
  .next <| s.live fun s =>
    if addressByte.toNat / 2 = s.desk.busAddress then
      s.setDesk { s.desk with bus := if addressByte.getLsbD 0 then .reading else .writing,
                              busTimer := some Config.busTimeout }
    else s.endTransaction

/-- DESK_STOP_CONDITION (R188, R190): the transaction ends and no command is taken. -/
def execDeskStopCondition (s : State) : Host.Outcome State Fault Refusal :=
  .next (s.live State.endTransaction)

/-- STATUS (R188, R189, R197). -/
def execStatus (p : List Byte) (s : State) : Host.Outcome State Fault Refusal :=
  .next (s.live (takeWrite DeskKind.status.code p))

/-- READ_EVENTS (R188, R189, R193). -/
def execReadEvents (p : List Byte) (s : State) : Host.Outcome State Fault Refusal :=
  .next (s.live (takeWrite DeskKind.readEvents.code p))

/-- ACK_EVENTS (R188, R189, R193). -/
def execAckEvents (p : List Byte) (s : State) : Host.Outcome State Fault Refusal :=
  .next (s.live (takeWrite DeskKind.ackEvents.code p))

/-- EVENT_MASK (R188, R189, R193). -/
def execEventMask (p : List Byte) (s : State) : Host.Outcome State Fault Refusal :=
  .next (s.live (takeWrite DeskKind.eventMask.code p))

/-- CREDITS_SET (R188, R189, R18, R20). -/
def execCreditsSet (p : List Byte) (s : State) : Host.Outcome State Fault Refusal :=
  .next (s.live (takeWrite DeskKind.creditsSet.code p))

/-- CREDITS_ADD (R188, R189, R18, R20). -/
def execCreditsAdd (p : List Byte) (s : State) : Host.Outcome State Fault Refusal :=
  .next (s.live (takeWrite DeskKind.creditsAdd.code p))

/-- CREDITS_UNLIMITED (R188, R189, R18, R20). -/
def execCreditsUnlimited (p : List Byte) (s : State) : Host.Outcome State Fault Refusal :=
  .next (s.live (takeWrite DeskKind.creditsUnlimited.code p))

/-- LOCK (R188, R189, R21). -/
def execLock (p : List Byte) (s : State) : Host.Outcome State Fault Refusal :=
  .next (s.live (takeWrite DeskKind.lock.code p))

/-- UNLOCK (R188, R189, R21). -/
def execUnlock (p : List Byte) (s : State) : Host.Outcome State Fault Refusal :=
  .next (s.live (takeWrite DeskKind.unlock.code p))

/-- CONFIG_SET (R188, R189, R194, R195). -/
def execConfigSet (p : List Byte) (s : State) : Host.Outcome State Fault Refusal :=
  .next (s.live (takeWrite DeskKind.configSet.code p))

/-- CONFIG_READ (R188, R189, R196). -/
def execConfigRead (p : List Byte) (s : State) : Host.Outcome State Fault Refusal :=
  .next (s.live (takeWrite DeskKind.configRead.code p))

/-- INSERT_PRIORITY (R188, R189, R7, R8). -/
def execInsertPriority (p : List Byte) (s : State) : Host.Outcome State Fault Refusal :=
  .next (s.live (takeWrite DeskKind.insertPriority.code p))

/-- PROMOTE (R188, R189, R12). -/
def execPromote (p : List Byte) (s : State) : Host.Outcome State Fault Refusal :=
  .next (s.live (takeWrite DeskKind.promote.code p))

/-- MOVE (R188, R189, R10, R11). -/
def execMove (p : List Byte) (s : State) : Host.Outcome State Fault Refusal :=
  .next (s.live (takeWrite DeskKind.move.code p))

/-- REMOVE (R188, R189, R13). -/
def execRemove (p : List Byte) (s : State) : Host.Outcome State Fault Refusal :=
  .next (s.live (takeWrite DeskKind.remove.code p))

/-- STOP_SONG (R188, R189, R87, R88). -/
def execStopSong (p : List Byte) (s : State) : Host.Outcome State Fault Refusal :=
  .next (s.live (takeWrite DeskKind.stopSong.code p))

/-- READ_QUEUE (R188, R189, R15, R203). -/
def execReadQueue (p : List Byte) (s : State) : Host.Outcome State Fault Refusal :=
  .next (s.live (takeWrite DeskKind.readQueue.code p))

/-- READ_HISTORY (R188, R189, R170). -/
def execReadHistory (p : List Byte) (s : State) : Host.Outcome State Fault Refusal :=
  .next (s.live (takeWrite DeskKind.readHistory.code p))

/-- READ_BOARD (R188, R189, R171). -/
def execReadBoard (p : List Byte) (s : State) : Host.Outcome State Fault Refusal :=
  .next (s.live (takeWrite DeskKind.readBoard.code p))

/-- READ_LINE_COUNTERS (R188, R189, R31, R203). -/
def execReadLineCounters (p : List Byte) (s : State) : Host.Outcome State Fault Refusal :=
  .next (s.live (takeWrite DeskKind.readLineCounters.code p))

/-- NEW_SESSION (R188, R189, R168). -/
def execNewSession (p : List Byte) (s : State) : Host.Outcome State Fault Refusal :=
  .next (s.live (takeWrite DeskKind.newSession.code p))

/-- ROOM_CLEAR (R188, R189, R202). -/
def execRoomClear (p : List Byte) (s : State) : Host.Outcome State Fault Refusal :=
  .next (s.live (takeWrite DeskKind.roomClear.code p))

/-- STANDBY (R188, R189, R200). -/
def execStandby (p : List Byte) (s : State) : Host.Outcome State Fault Refusal :=
  .next (s.live (takeWrite DeskKind.standby.code p))

/-- WAKE (R188, R189, R201). -/
def execWake (p : List Byte) (s : State) : Host.Outcome State Fault Refusal :=
  .next (s.live (takeWrite DeskKind.wake.code p))

/-- DESK_RESET (R188, R189, R199). -/
def execDeskReset (p : List Byte) (s : State) : Host.Outcome State Fault Refusal :=
  .next (s.live (takeWrite DeskKind.deskReset.code p))

/-- DESK_UNKNOWN_KIND (R188, R189). -/
def execDeskUnknownKind (kind : Byte) (p : List Byte) (s : State) : Host.Outcome State Fault Refusal :=
  .next (s.live (takeWrite kind p))

end Sys2Proof.Machine
end

