-- ==== Sys2Proof/Machine/FollowerCommands.lean ====
section
/-! DEFINITION. The events at the two followers of play time, and those of the microphones (chapters 5, 6 and 7).

The advances wait in the followers' inboxes and are taken by the rows named for their kind.  The other requests are taken
inside the deck's own event, by the operations these rows call; a row given by itself is the same request reaching the
follower (log entry 8). -/

namespace Sys2Proof.Machine

/-- LYRIC_STEP (R97): the oldest waiting advance, if it is a STEP, is taken. -/
def execLyricStep (s : State) : Host.Outcome State Fault Refusal :=
  .next <| s.live fun s =>
    match s.lyric.inbox with
    | [] => s
    | a :: rest =>
      if a.kind = .step then s.setLyric ({ s.lyric with inbox := rest }.take s.store.playing a) else s

/-- LYRIC_REBUILD (R105, R106): the oldest waiting advance, if it is a JUMP or a REWIND, is taken. -/
def execLyricRebuild (s : State) : Host.Outcome State Fault Refusal :=
  .next <| s.live fun s =>
    match s.lyric.inbox with
    | [] => s
    | a :: rest =>
      if a.kind = .step then s else s.setLyric ({ s.lyric with inbox := rest }.take s.store.playing a)

/-- LYRIC_NEW_SONG (R95, R96). -/
def execLyricNewSong (s : State) : Host.Outcome State Fault Refusal := .next (s.live State.lyricNewSong)

/-- LYRIC_DROP_SONG (R115). -/
def execLyricDropSong (s : State) : Host.Outcome State Fault Refusal := .next (s.live State.lyricDropSong)

/-- GRADER_STEP (R142): the oldest waiting advance, if it is a STEP or a JUMP, is taken. -/
def execGraderStep (s : State) : Host.Outcome State Fault Refusal :=
  .next <| s.live fun s =>
    match s.grader.inbox with
    | [] => s
    | a :: rest =>
      if a.kind = .rewind then s
      else s.setGrader ({ s.grader with inbox := rest }.take s.store.playing.notes s.deck.key a)

/-- GRADER_REWIND (R144): the oldest waiting advance, if it is a REWIND, is taken. -/
def execGraderRewind (s : State) : Host.Outcome State Fault Refusal :=
  .next <| s.live fun s =>
    match s.grader.inbox with
    | [] => s
    | a :: rest =>
      if a.kind = .rewind then s.setGrader ({ s.grader with inbox := rest }.take s.store.playing.notes s.deck.key a)
      else s

/-- GRADER_NEW_SONG (R140). -/
def execGraderNewSong (s : State) : Host.Outcome State Fault Refusal := .next (s.live State.graderNewSong)

/-- GRADER_FINAL_SCORES (R151 to R153), at the deck's present play time. -/
def execGraderFinalScores (s : State) : Host.Outcome State Fault Refusal :=
  .next (s.live fun s => s.graderFinalScores s.deck.playTime)

/-- GRADER_SONG_ENDED (R89, step 2). -/
def execGraderSongEnded (s : State) : Host.Outcome State Fault Refusal := .next (s.live State.graderSongEnded)

/-- GRADER_DISCARD (R158). -/
def execGraderDiscard (s : State) : Host.Outcome State Fault Refusal := .next (s.live State.graderDiscard)

/-- CONVERSION_COMPLETION (R123 to R126): the value goes to the gate whose conversion is in flight, under the thresholds
as they stand. -/
def execConversionCompletion (value : BitVec 10) (s : State) : Host.Outcome State Fault Refusal :=
  .next <| s.live fun s =>
    s.setFront (s.front.complete s.desk.settings.openThreshold s.desk.settings.closeThreshold value.toNat)

/-- A taken edge at a microphone, with its sample routed (R129 to R134, R146). -/
def takeEdge (m : Mic) (counts : Nat) (s : State) : State :=
  let edge := (s.front.mic m).takeEdge counts
  let taken := s.setFront (s.front.setMic m edge.1)
  match edge.2 with
  | none => taken
  | some p => taken.routeSample m p

/-- ZERO_CROSS_EDGE (R128 to R134, R145, R146): taken while activity is ON. -/
def execZeroCrossEdge (m : Mic) (counts : Nat) (s : State) : Host.Outcome State Fault Refusal :=
  .next <| s.live fun s => if s.front.activity = .on then takeEdge m counts s else s

end Sys2Proof.Machine
end

