-- ==== Sys2Proof/Machine/MediaCommands.lean ====
section
/-! DEFINITION. The media port rows of the table: the select line and the commands of every kind (chapter 9). -/

namespace Sys2Proof.Machine

/-! ## Scenes (R116 to R118, R127, R156, R183, R184) -/

/-- Whether the scene is BLANK (R183). -/
def sceneBlank (s : State) : Bool := s.desk.standby || s.deck.state == .idle || !s.deck.reached

/-- The sequencer brought to play time for a scene: waiting advances, then a STEP (R116). -/
def sceneLyric (s : State) : State :=
  s.lyricCatchUp.setLyric (s.lyricCatchUp.lyric.step s.store.playing s.deck.playTime)

/-- The 54 bytes of a SONG scene from a state whose sequencer has been brought to play time (R184, section 11.4). -/
def songSceneBytes (s : State) : List Byte :=
  [1#8, byteOf s.deck.stopId, s.deck.state.code] ++ field3 s.deck.playTime ++ field3 s.store.playing.songLength ++
    byteOf s.lyric.settings.rows :: s.lyric.rowSlots s.store.playing s.deck.playTime ++
    s.lyric.leavingSlot s.store.playing s.deck.playTime ++
    byteOf ((s.lyric.phase s.deck.playTime).getD 255) ::
    byteOf (s.lyric.countdownValue s.store.playing s.deck.playTime) ::
    yesNo s.front.micA.gateOpen :: s.grader.micA.sceneBytes ++ yesNo s.front.micB.gateOpen :: s.grader.micB.sceneBytes

/-! ## What each command's owner does: the new state and the answer (R177) -/

/-- STAGE OPEN, by the staging controller. -/
def stageOpenCommand (p : List Byte) (s : State) : State × Answer := s.stageOpenEvent (headerOf p)

/-- LINE, by the staging controller. -/
def lineCommand (p : List Byte) (s : State) : State × Answer := s.stageLineEvent (lineFieldsOf p)

/-- NOTE, by the staging controller. -/
def noteCommand (p : List Byte) (s : State) : State × Answer := s.stageNoteEvent (noteFieldsOf p)

/-- STAGE CLOSE, by the staging controller. -/
def stageCloseCommand (p : List Byte) (s : State) : State × Answer := s.stageCloseEvent (byteAt p 0).toNat

/-- STAGE FAIL, by the staging controller; the reason, byte 1, is accepted and not kept (R62). -/
def stageFailCommand (p : List Byte) (s : State) : State × Answer := s.stageFailEvent (byteAt p 0).toNat

/-- TIME MARK, by the deck (R79). -/
def timeMarkCommand (p : List Byte) (s : State) : State × Answer :=
  s.takeMark (byteAt p 0).toNat (fieldAt p 1 3) (byteAt p 4)

/-- The 12 bytes of the directive record (section 11.4). -/
def directiveBytes (m : MediaPort) : List Byte :=
  [byteOf m.changeCount, m.directive.playOrder.code, byteOf m.directive.playId] ++ field3 m.directive.playSong ++
    [signedByte m.directive.keyShift, m.directive.stageOrder.code, byteOf m.directive.stageId] ++
    field3 m.directive.stageSong

/-- READ DIRECTIVE, by the port (R182). -/
def readDirectiveCommand (s : State) : State × Answer := (s, ⟨.ok, directiveBytes s.port⟩)

/-- ACK DIRECTIVE, by the port (R181). -/
def ackDirectiveCommand (p : List Byte) (s : State) : State × Answer :=
  if (byteAt p 0).toNat = s.port.changeCount then
    (s.setPort { s.port with ackCount := (byteAt p 0).toNat }, ⟨.ok, [byteOf s.port.changeCount]⟩)
  else (s, ⟨.stale, [byteOf s.port.changeCount]⟩)

/-- READ SCENE, by the port with the blocks it asks (R183, R184). -/
def readSceneCommand (s : State) : State × Answer :=
  if sceneBlank s then (s, ⟨.ok, [0#8]⟩) else (sceneLyric s, ⟨.ok, songSceneBytes (sceneLyric s)⟩)

/-- REPEAT ANSWER, by the port: the last answer record as it stands (R179). -/
def repeatAnswerCommand (s : State) : State × Answer := (s, s.port.lastAnswer)

/-- The command handed to its owning block (R177). -/
def mediaOwner (k : MediaKind) (p : List Byte) (s : State) : State × Answer :=
  match k with
  | .stageOpen => stageOpenCommand p s
  | .line => lineCommand p s
  | .note => noteCommand p s
  | .stageClose => stageCloseCommand p s
  | .stageFail => stageFailCommand p s
  | .timeMark => timeMarkCommand p s
  | .readDirective => readDirectiveCommand s
  | .ackDirective => ackDirectiveCommand p s
  | .readScene => readSceneCommand s
  | .repeatAnswer => repeatAnswerCommand s

/-! ## The port's checks (R174, R176, R178, R179) -/

/-- The sum of kind, length bytes, payload and check is 0 (R173). -/
def commandSumOk (kind : Byte) (p : List Byte) (check : Byte) : Bool :=
  byteSum (kind :: field2 p.length ++ p ++ [check]) == 0#8

/-- The port's own checks, in order: the code of the first that fails, or the kind to hand on (R176).  The model's choice
(DESIGN CHOICE, log entry 18): a LINE whose declared length is at most 1280 while its fields imply more than 1280 bytes fails
at check 4 and is BAD_FIELD; TOO_LARGE is the declared length's alone. -/
def portCheck (kind : Byte) (p : List Byte) (check : Byte) : Except ResultCode MediaKind :=
  if p.length > Config.mediaPayloadLimit then .error .tooLarge
  else if !commandSumOk kind p check then .error .badField
  else match mediaKindOf kind with
  | none => .error .badKind
  | some k => if k.lengthFits p then .ok k else .error .badField

/-- The answer of a command becomes the last answer record, and the port answers (R174, R179). -/
def answerWith (r : State × Answer) : State := 
  r.1.setPort { r.1.port with state := .answer, place := 0, lastAnswer := r.2 }

/-- A command taken at its check byte.  Only a port in COMMAND takes one; in every other state the bytes begin no command
(R174). -/
def takeCommand (kind : Byte) (p : List Byte) (check : Byte) (s : State) : State :=
  if s.port.state ≠ .command then s
  else match portCheck kind p check with
  | .error code => answerWith (s, .bare code)
  | .ok k => answerWith (mediaOwner k p s)

/-! ## The meanings -/

/-- MSN_FALL (R174, R175): a port that has seen MSN high makes the change count ready and takes a command; in reset the
level alone is followed. -/
def execMsnFall (s : State) : Host.Outcome State Fault Refusal :=
  .next <|
    if s.running then
      if s.port.selectHigh then
        s.setPort { s.port with
          selectHigh := false, state := .command, firstByte := some (byteOf s.port.changeCount), place := 0 }
      else s
    else s.setPort { s.port with selectHigh := false }

/-- MSN_RISE (R174, R178): the transaction ends; a command not taken at its check byte leaves no trace, and MDO is
released.  In reset the level is followed and MDO is released. -/
def execMsnRise (s : State) : Host.Outcome State Fault Refusal :=
  .next <|
    if s.running then
      if s.port.selectHigh then s
      else s.setPort { s.port with selectHigh := true, state := .unselected, firstByte := none, place := 0 }
    else s.setPort { s.port with selectHigh := true, firstByte := none }

/-- STAGE_OPEN (R54, R55, R176). -/
def execStageOpen (p : List Byte) (check : Byte) (s : State) : Host.Outcome State Fault Refusal :=
  .next (s.live (takeCommand MediaKind.stageOpen.code p check))

/-- LINE (R56 to R58, R176). -/
def execLine (p : List Byte) (check : Byte) (s : State) : Host.Outcome State Fault Refusal :=
  .next (s.live (takeCommand MediaKind.line.code p check))

/-- NOTE (R59, R60, R176). -/
def execNote (p : List Byte) (check : Byte) (s : State) : Host.Outcome State Fault Refusal :=
  .next (s.live (takeCommand MediaKind.note.code p check))

/-- STAGE_CLOSE (R61, R176). -/
def execStageClose (p : List Byte) (check : Byte) (s : State) : Host.Outcome State Fault Refusal :=
  .next (s.live (takeCommand MediaKind.stageClose.code p check))

/-- STAGE_FAIL (R62, R176). -/
def execStageFail (p : List Byte) (check : Byte) (s : State) : Host.Outcome State Fault Refusal :=
  .next (s.live (takeCommand MediaKind.stageFail.code p check))

/-- TIME_MARK_RUN (R72, R77, R79, R83, R91, R176). -/
def execTimeMarkRun (p : List Byte) (check : Byte) (s : State) : Host.Outcome State Fault Refusal :=
  .next (s.live (takeCommand MediaKind.timeMark.code p check))

/-- TIME_MARK_END (R74, R79, R86, R91, R176). -/
def execTimeMarkEnd (p : List Byte) (check : Byte) (s : State) : Host.Outcome State Fault Refusal :=
  .next (s.live (takeCommand MediaKind.timeMark.code p check))

/-- READ_DIRECTIVE (R176, R182). -/
def execReadDirective (p : List Byte) (check : Byte) (s : State) : Host.Outcome State Fault Refusal :=
  .next (s.live (takeCommand MediaKind.readDirective.code p check))

/-- ACK_DIRECTIVE (R176, R181). -/
def execAckDirective (p : List Byte) (check : Byte) (s : State) : Host.Outcome State Fault Refusal :=
  .next (s.live (takeCommand MediaKind.ackDirective.code p check))

/-- READ_SCENE (R176, R183, R184). -/
def execReadScene (p : List Byte) (check : Byte) (s : State) : Host.Outcome State Fault Refusal :=
  .next (s.live (takeCommand MediaKind.readScene.code p check))

/-- REPEAT_ANSWER (R176, R179). -/
def execRepeatAnswer (p : List Byte) (check : Byte) (s : State) : Host.Outcome State Fault Refusal :=
  .next (s.live (takeCommand MediaKind.repeatAnswer.code p check))

/-- MEDIA_UNKNOWN_KIND (R176). -/
def execMediaUnknownKind (kind : Byte) (p : List Byte) (check : Byte) (s : State) :
    Host.Outcome State Fault Refusal :=
  .next (s.live (takeCommand kind p check))

end Sys2Proof.Machine
end

