-- ==== Sys2Proof/Machine/PanelCommands.lean ====
section
/-! DEFINITION. The panel rows of the table: breaks, characters, gaps, complete frames of every kind, and the completion
of the shift (chapter 2). -/

namespace Sys2Proof.Machine

/-! ## What each request's owner does: the new state and the reply (section 2.5) -/

/-- ASK SONG: a submission from the line's origin (R37). -/
def askSongRequest (l : PanelLine) (p : List Byte) (s : State) : State × PanelReply :=
  let r := s.submit (lineOrigin l) false (songRequestOf p)
  (r.1, requestReply PanelKind.askSong.code r.2)

/-- DROP ENTRY: a cancel (R38). -/
def dropEntryRequest (l : PanelLine) (p : List Byte) (s : State) : State × PanelReply :=
  let r := s.cancel (lineOrigin l) (byteAt p 0).toNat
  (r.1, requestReply PanelKind.dropEntry.code r.2)

/-- SHIFT ENTRY: a panel move (R39). -/
def shiftEntryRequest (l : PanelLine) (p : List Byte) (s : State) : State × PanelReply :=
  let r := s.panelMove (lineOrigin l) (byteAt p 0).toNat (byteAt p 1).toNat
  (r.1, requestReply PanelKind.shiftEntry.code r.2)

/-- SKIP NOW (R40). -/
def skipNowRequest (p : List Byte) (s : State) : State × PanelReply :=
  let r := s.skipEvent (byteAt p 0).toNat
  (r.1, requestReply PanelKind.skipNow.code r.2)

/-- HOLD (R40). -/
def holdRequest (s : State) : State × PanelReply :=
  let r := s.holdEvent
  (r.1, requestReply PanelKind.hold.code r.2)

/-- GO (R40). -/
def goRequest (s : State) : State × PanelReply :=
  let r := s.goEvent
  (r.1, requestReply PanelKind.go.code r.2)

/-- KEY (R41). -/
def keyRequest (p : List Byte) (s : State) : State × PanelReply :=
  let r := s.keyEvent (signedOf (byteAt p 0))
  (r.1, requestReply PanelKind.key.code r.2)

/-- PEEK QUEUE: a page of at most four entries (R42). -/
def peekQueueRequest (p : List Byte) (s : State) : State × PanelReply :=
  (s, ⟨0x82#8, s.room.pageBytes (byteAt p 0).toNat 4⟩)

/-- Bytes 1 to 15 of the NOW REPORT: the current entry, play time and song length; 0 in IDLE (R43, section 11.3). -/
def nowEntryBytes (s : State) : List Byte :=
  match s.deck.state, s.deck.current with
  | .idle, _ => List.replicate 15 0#8
  | _, none => List.replicate 15 0#8
  | _, some e =>
    byteOf s.deck.stopId :: field3 e.song ++
      [byteOf e.singer, e.origin.code, yesNo e.priority, e.micMode.code, signedByte e.keyShift] ++
      field3 s.deck.playTime ++ field3 s.store.playing.songLength

/-- A running score of the NOW REPORT: absent in IDLE (R43, R157). -/
def nowScoreBytes (s : State) (g : MicGrade) : List Byte :=
  optional2 (if s.deck.state = .idle then none else g.score)

/-- The 25 bytes of the NOW REPORT (R43, section 11.3). -/
def nowReportBytes (s : State) : List Byte :=
  s.deck.state.code :: nowEntryBytes s ++ nowScoreBytes s s.grader.micA ++ nowScoreBytes s s.grader.micB ++
    yesNo s.room.unlimited :: field2 s.room.credits ++ [yesNo s.room.locked, byteOf s.room.entries.length]

/-- PEEK NOW (R43). -/
def peekNowRequest (s : State) : State × PanelReply := (s, ⟨0x83#8, nowReportBytes s⟩)

/-- PEEK PAST: a page of at most two summaries (R44). -/
def peekPastRequest (p : List Byte) (s : State) : State × PanelReply :=
  (s, ⟨0x84#8, s.results.pageBytes (byteAt p 0).toNat 2 Results.summaryBytes⟩)

/-- The request passed to its owning block (R32, step 5). -/
def panelOwner (k : PanelKind) (l : PanelLine) (p : List Byte) (s : State) : State × PanelReply :=
  match k with
  | .askSong => askSongRequest l p s
  | .dropEntry => dropEntryRequest l p s
  | .shiftEntry => shiftEntryRequest l p s
  | .skipNow => skipNowRequest p s
  | .hold => holdRequest s
  | .go => goRequest s
  | .key => keyRequest p s
  | .peekQueue => peekQueueRequest p s
  | .peekNow => peekNowRequest s
  | .peekPast => peekPastRequest p s

/-! ## The request stage (R32, R33) -/

/-- The reply arrives in the reserved slot of a line (R35). -/
def sendReply (l : PanelLine) (r : PanelReply) (s : State) : State := s.setPanel l ((s.panel l).placeReply r)

/-- The kind check, the length check and the dispatch of a frame whose slot is reserved (R32, steps 3 to 5). -/
def dispatchFrame (l : PanelLine) (kind : Byte) (p : List Byte) (s : State) : State :=
  match panelKindOf kind with
  | none => sendReply l (noReply kind .badKind) s
  | some k =>
    if p.length ≠ k.length then sendReply l (noReply kind .badField) s
    else sendReply l (panelOwner k l p s).2 (panelOwner k l p s).1

/-- A frame-complete event at the request stage: slot, standby, then kind, length and dispatch (R32, R33). -/
def takeFrame (l : PanelLine) (kind : Byte) (p : List Byte) (s : State) : State :=
  let u := s.panel l
  if u.slot ≠ .empty then (s.setPanel l u.drop).raise .lineFault
  else
    let reserved := s.setPanel l u.reserve
    if !s.desk.standby then dispatchFrame l kind p reserved
    else if s.desk.settings.wakeOnPanel then dispatchFrame l kind p reserved.leaveStandby
    else sendReply l (noReply kind .standby) reserved

/-! ## The meanings -/

/-- PANEL_BREAK (R26, R28, R30, R45). -/
def execPanelBreak (l : PanelLine) (s : State) : Host.Outcome State Fault Refusal :=
  let u := s.panel l
  .next <|
    if s.running then
      if u.canReceive then
        let taken := s.setPanel l u.takeBreak
        if u.assembler.inProgress then taken.raise .lineFault else taken
      else s
    else s.setPanel l { u with lineHigh := false }

/-- A received character at a line: the assembler takes it, and a complete frame goes to the request stage in the same
event (R28, step 6). -/
def takeCharacter (l : PanelLine) (r : Received) (s : State) : State :=
  let u := s.panel l
  let a := u.assembler.take r
  let taken := s.setPanel l (u.afterAssembly a)
  match a.error, a.frame with
  | some _, _ => taken.raise .lineFault
  | none, some f => takeFrame l f.1 f.2 taken
  | none, none => taken

/-- PANEL_CHARACTER (R25, R26, R28, R30); a false start reports nothing. -/
def execPanelCharacter (l : PanelLine) (seventh eighth ninth : BitVec 11) (s : State) :
    Host.Outcome State Fault Refusal :=
  .next <| s.live fun s =>
    match receivedOf (majority seventh eighth ninth) with
    | .falseStart => s
    | r => if (s.panel l).canReceive then takeCharacter l r s else s

/-- GAP (R29, R30): only while the gap count runs. -/
def execGap (l : PanelLine) (s : State) : Host.Outcome State Fault Refusal :=
  .next <| s.live fun s =>
    if (s.panel l).gapCounting && (s.panel l).assembler.inProgress then
      (s.setPanel l (s.panel l).gapError).raise .lineFault
    else s

/-- ASK_SONG (R32, R33, R37). -/
def execAskSong (l : PanelLine) (p : List Byte) (s : State) : Host.Outcome State Fault Refusal :=
  .next (s.live (takeFrame l PanelKind.askSong.code p))

/-- DROP_ENTRY (R32, R33, R38). -/
def execDropEntry (l : PanelLine) (p : List Byte) (s : State) : Host.Outcome State Fault Refusal :=
  .next (s.live (takeFrame l PanelKind.dropEntry.code p))

/-- SHIFT_ENTRY (R32, R33, R39). -/
def execShiftEntry (l : PanelLine) (p : List Byte) (s : State) : Host.Outcome State Fault Refusal :=
  .next (s.live (takeFrame l PanelKind.shiftEntry.code p))

/-- SKIP_NOW (R32, R33, R87, R88). -/
def execSkipNow (l : PanelLine) (p : List Byte) (s : State) : Host.Outcome State Fault Refusal :=
  .next (s.live (takeFrame l PanelKind.skipNow.code p))

/-- HOLD (R32, R33, R82). -/
def execHold (l : PanelLine) (p : List Byte) (s : State) : Host.Outcome State Fault Refusal :=
  .next (s.live (takeFrame l PanelKind.hold.code p))

/-- GO (R32, R33, R84). -/
def execGo (l : PanelLine) (p : List Byte) (s : State) : Host.Outcome State Fault Refusal :=
  .next (s.live (takeFrame l PanelKind.go.code p))

/-- KEY (R32, R33, R41, R85). -/
def execKey (l : PanelLine) (p : List Byte) (s : State) : Host.Outcome State Fault Refusal :=
  .next (s.live (takeFrame l PanelKind.key.code p))

/-- PEEK_QUEUE (R32, R33, R42). -/
def execPeekQueue (l : PanelLine) (p : List Byte) (s : State) : Host.Outcome State Fault Refusal :=
  .next (s.live (takeFrame l PanelKind.peekQueue.code p))

/-- PEEK_NOW (R32, R33, R43). -/
def execPeekNow (l : PanelLine) (p : List Byte) (s : State) : Host.Outcome State Fault Refusal :=
  .next (s.live (takeFrame l PanelKind.peekNow.code p))

/-- PEEK_PAST (R32, R33, R44). -/
def execPeekPast (l : PanelLine) (p : List Byte) (s : State) : Host.Outcome State Fault Refusal :=
  .next (s.live (takeFrame l PanelKind.peekPast.code p))

/-- PANEL_UNKNOWN_KIND (R32, R33). -/
def execPanelUnknownKind (l : PanelLine) (kind : Byte) (p : List Byte) (s : State) :
    Host.Outcome State Fault Refusal :=
  .next (s.live (takeFrame l kind p))

/-- SHIFT_COMPLETION (R35). -/
def execShiftCompletion (l : PanelLine) (s : State) : Host.Outcome State Fault Refusal :=
  .next (s.live fun s => s.setPanel l (s.panel l).completeShift)

/-- LINE_RETURNS_HIGH (R25, R26): in reset the level alone is followed. -/
def execLineReturnsHigh (l : PanelLine) (s : State) : Host.Outcome State Fault Refusal :=
  .next <|
    if s.running then s.setPanel l (s.panel l).returnHigh
    else s.setPanel l { s.panel l with lineHigh := true }

end Sys2Proof.Machine
end

