-- ==== Sys2Proof/Machine/ResetCommands.lean ====
section
/-! DEFINITION. The supply and reset rows of the table (R198). -/

namespace Sys2Proof.Machine

/-- POWER_ON (R198). -/
def execPowerOn (s : State) : Host.Outcome State Fault Refusal := .next (s.setResetUnit s.resetUnit.powerOn)

/-- LOW_SUPPLY (R198). -/
def execLowSupply (s : State) : Host.Outcome State Fault Refusal := .next (s.setResetUnit s.resetUnit.lowSupply)

/-- RESET_PIN (R198). -/
def execResetPin (s : State) : Host.Outcome State Fault Refusal := .next (s.setResetUnit s.resetUnit.resetPin)

/-- LEAVING_RESET (R198): only a controller in reset whose pin is released and whose supply is valid leaves it. -/
def execLeavingReset (addressSelect : BitVec 2) (s : State) : Host.Outcome State Fault Refusal :=
  .next (if s.resetUnit.mayLeave then afterReset addressSelect s else s)

/-- SUPPLY_RECOVERY (R198). -/
def execSupplyRecovery (s : State) : Host.Outcome State Fault Refusal := .next (s.setResetUnit s.resetUnit.recover)

/-- RSTN_RELEASE (R198). -/
def execRstnRelease (s : State) : Host.Outcome State Fault Refusal := .next (s.setResetUnit s.resetUnit.release)

end Sys2Proof.Machine
end

