-- ==== Sys2Proof/Machine/Dispatch.lean ====
section
/-! DEFINITION. The command's effect on everything but the queue of waiting commands: one arm for each row. -/

namespace Sys2Proof.Machine

def exec (i : Instr) (s : State) : Host.Outcome State Fault Refusal :=
  match i with
  | .panelBreak l => Sys2Proof.Machine.execPanelBreak l s
  | .panelCharacter l seventh eighth ninth => Sys2Proof.Machine.execPanelCharacter l seventh eighth ninth s
  | .gap l => Sys2Proof.Machine.execGap l s
  | .askSong l p => Sys2Proof.Machine.execAskSong l p s
  | .dropEntry l p => Sys2Proof.Machine.execDropEntry l p s
  | .shiftEntry l p => Sys2Proof.Machine.execShiftEntry l p s
  | .skipNow l p => Sys2Proof.Machine.execSkipNow l p s
  | .hold l p => Sys2Proof.Machine.execHold l p s
  | .go l p => Sys2Proof.Machine.execGo l p s
  | .key l p => Sys2Proof.Machine.execKey l p s
  | .peekQueue l p => Sys2Proof.Machine.execPeekQueue l p s
  | .peekNow l p => Sys2Proof.Machine.execPeekNow l p s
  | .peekPast l p => Sys2Proof.Machine.execPeekPast l p s
  | .panelUnknownKind l kind p => Sys2Proof.Machine.execPanelUnknownKind l kind p s
  | .shiftCompletion l => Sys2Proof.Machine.execShiftCompletion l s
  | .msnFall => Sys2Proof.Machine.execMsnFall s
  | .msnRise => Sys2Proof.Machine.execMsnRise s
  | .stageOpen p check => Sys2Proof.Machine.execStageOpen p check s
  | .line p check => Sys2Proof.Machine.execLine p check s
  | .note p check => Sys2Proof.Machine.execNote p check s
  | .stageClose p check => Sys2Proof.Machine.execStageClose p check s
  | .stageFail p check => Sys2Proof.Machine.execStageFail p check s
  | .timeMarkRun p check => Sys2Proof.Machine.execTimeMarkRun p check s
  | .timeMarkEnd p check => Sys2Proof.Machine.execTimeMarkEnd p check s
  | .readDirective p check => Sys2Proof.Machine.execReadDirective p check s
  | .ackDirective p check => Sys2Proof.Machine.execAckDirective p check s
  | .readScene p check => Sys2Proof.Machine.execReadScene p check s
  | .repeatAnswer p check => Sys2Proof.Machine.execRepeatAnswer p check s
  | .mediaUnknownKind kind p check => Sys2Proof.Machine.execMediaUnknownKind kind p check s
  | .millisecondTick => Sys2Proof.Machine.execMillisecondTick s
  | .startTimerExpiry => Sys2Proof.Machine.execStartTimerExpiry s
  | .stallTimerExpiry => Sys2Proof.Machine.execStallTimerExpiry s
  | .stallLimitExpiry => Sys2Proof.Machine.execStallLimitExpiry s
  | .stopTimerExpiry => Sys2Proof.Machine.execStopTimerExpiry s
  | .lyricStep => Sys2Proof.Machine.execLyricStep s
  | .lyricRebuild => Sys2Proof.Machine.execLyricRebuild s
  | .lyricNewSong => Sys2Proof.Machine.execLyricNewSong s
  | .lyricDropSong => Sys2Proof.Machine.execLyricDropSong s
  | .graderStep => Sys2Proof.Machine.execGraderStep s
  | .graderRewind => Sys2Proof.Machine.execGraderRewind s
  | .graderNewSong => Sys2Proof.Machine.execGraderNewSong s
  | .graderFinalScores => Sys2Proof.Machine.execGraderFinalScores s
  | .graderSongEnded => Sys2Proof.Machine.execGraderSongEnded s
  | .graderDiscard => Sys2Proof.Machine.execGraderDiscard s
  | .conversionCompletion value => Sys2Proof.Machine.execConversionCompletion value s
  | .zeroCrossEdge mic counts => Sys2Proof.Machine.execZeroCrossEdge mic counts s
  | .settleTimerExpiry => Sys2Proof.Machine.execSettleTimerExpiry s
  | .deskBusTimeout => Sys2Proof.Machine.execDeskBusTimeout s
  | .status p => Sys2Proof.Machine.execStatus p s
  | .readEvents p => Sys2Proof.Machine.execReadEvents p s
  | .ackEvents p => Sys2Proof.Machine.execAckEvents p s
  | .eventMask p => Sys2Proof.Machine.execEventMask p s
  | .creditsSet p => Sys2Proof.Machine.execCreditsSet p s
  | .creditsAdd p => Sys2Proof.Machine.execCreditsAdd p s
  | .creditsUnlimited p => Sys2Proof.Machine.execCreditsUnlimited p s
  | .lock p => Sys2Proof.Machine.execLock p s
  | .unlock p => Sys2Proof.Machine.execUnlock p s
  | .configSet p => Sys2Proof.Machine.execConfigSet p s
  | .configRead p => Sys2Proof.Machine.execConfigRead p s
  | .insertPriority p => Sys2Proof.Machine.execInsertPriority p s
  | .promote p => Sys2Proof.Machine.execPromote p s
  | .move p => Sys2Proof.Machine.execMove p s
  | .remove p => Sys2Proof.Machine.execRemove p s
  | .stopSong p => Sys2Proof.Machine.execStopSong p s
  | .readQueue p => Sys2Proof.Machine.execReadQueue p s
  | .readHistory p => Sys2Proof.Machine.execReadHistory p s
  | .readBoard p => Sys2Proof.Machine.execReadBoard p s
  | .readLineCounters p => Sys2Proof.Machine.execReadLineCounters p s
  | .newSession p => Sys2Proof.Machine.execNewSession p s
  | .roomClear p => Sys2Proof.Machine.execRoomClear p s
  | .standby p => Sys2Proof.Machine.execStandby p s
  | .wake p => Sys2Proof.Machine.execWake p s
  | .deskReset p => Sys2Proof.Machine.execDeskReset p s
  | .deskUnknownKind kind p => Sys2Proof.Machine.execDeskUnknownKind kind p s
  | .powerOn => Sys2Proof.Machine.execPowerOn s
  | .lowSupply => Sys2Proof.Machine.execLowSupply s
  | .resetPin => Sys2Proof.Machine.execResetPin s
  | .leavingReset addressSelect => Sys2Proof.Machine.execLeavingReset addressSelect s
  | .lineReturnsHigh l => Sys2Proof.Machine.execLineReturnsHigh l s
  | .deskStartCondition addressByte => Sys2Proof.Machine.execDeskStartCondition addressByte s
  | .deskStopCondition => Sys2Proof.Machine.execDeskStopCondition s
  | .supplyRecovery => Sys2Proof.Machine.execSupplyRecovery s
  | .rstnRelease => Sys2Proof.Machine.execRstnRelease s

end Sys2Proof.Machine
end

