-- ==== Sys2Proof/Safety.lean ====
section
/-! DEFINITION. What the spec says holds of each block at the end of every event, and of the controller as a whole: the
terms the statements use.  A run is safe when `Sound` holds of every state of it. -/

namespace Sys2Proof.Machine

/-! ## The queue controller (R1, R2, R3, R18, R22) -/

/-- The ranges of an entry's fields other than its id (R2). -/
structure Entry.InRange (e : Entry) : Prop where
  song : 1 ≤ e.song ∧ e.song ≤ 999999
  singer : e.singer ≤ 15
  key : -6 ≤ e.keyShift ∧ e.keyShift ≤ 6
  arrival : 1 ≤ e.arrival ∧ e.arrival ≤ 65535

/-- At most 32 entries, every priority entry ahead of every normal entry, fields and account in range (R1, R2, R3, R18,
R22). -/
structure RoomQueue.Rule (q : RoomQueue) : Prop where
  capacity : q.entries.length ≤ 32
  priorityFirst : q.entries.Pairwise fun x y => y.priority = true → x.priority = true
  fields : ∀ e ∈ q.entries, e.InRange
  arrivals : q.arrivals ≤ 65535
  credits : q.credits ≤ 999
  quota : q.quota ≤ 32

/-! ## The panel line units (R28, R29, R31, R35, R36) -/

/-- What an assembler stores fits its state: a payload of at most 16 bytes, not yet whole in PAYLOAD (R27, R28). -/
def Assembler.Rule : Assembler → Prop
  | .outside => True
  | .awaitLead => True
  | .awaitKind => True
  | .awaitLength _ _ => True
  | .payload _ length stored _ => stored.length < length ∧ length ≤ 16
  | .awaitCheck _ stored _ => stored.length ≤ 16

/-- A reply has at most 64 payload bytes (R36). -/
def PanelReply.Fits (r : PanelReply) : Prop := r.payload.length ≤ 64

/-- Between events no slot is reserved, a full slot waits for a shift that is sending, the gap count runs exactly in a frame
in progress, and no counter passes 255 (R29, R31, R35, R36). -/
structure PanelUnit.Rule (u : PanelUnit) : Prop where
  assembler : u.assembler.Rule
  gap : u.gapCounting = u.assembler.inProgress
  notReserved : u.slot ≠ .reserved
  slotWaits : u.slot = .empty ∨ u.shift.isSome = true
  slotFits : ∀ r, u.slot = .full r → r.Fits
  shiftFits : ∀ x, u.shift = some x → x.reply.Fits
  counters : u.counters.parity ≤ 255 ∧ u.counters.framing ≤ 255 ∧ u.counters.lead ≤ 255 ∧ u.counters.length ≤ 255 ∧
    u.counters.check ≤ 255 ∧ u.counters.gap ≤ 255 ∧ u.counters.cut ≤ 255 ∧ u.counters.drop ≤ 255

/-! ## The deck and the play clock (section 4.1, R67, R68, R75, R80) -/

/-- The current entry is held with the stop id while it is being played, and is a finished entry in STOPPING (R67, R68). -/
def Deck.Holds (d : Deck) (id : Nat) : Prop := ∃ e, d.current = some e ∧ e.id = id

/-- The table of section 4.1: what each deck state holds, what its play clock does and which timer it arms.  In PLAYING the
stall timer runs out when E reaches 500 (R80). -/
def Deck.TableRow (d : Deck) : Prop :=
  match d.state with
  | .idle => d = Deck.atReset
  | .starting =>
    d.Holds d.stopId ∧ d.reached = false ∧ d.floor = 0 ∧ d.lastMark = 0 ∧ d.elapsed = 0 ∧
      (∃ k, d.startTimer = some k ∧ k ≤ 3000) ∧ d.stallTimer = none ∧ d.stallLimit = none ∧ d.stopTimer = none
  | .playing =>
    d.Holds d.stopId ∧ d.reached = true ∧ d.elapsed < 500 ∧ d.startTimer = none ∧
      d.stallTimer = some (500 - d.elapsed) ∧ d.stallLimit = none ∧ d.stopTimer = none
  | .paused =>
    d.Holds d.stopId ∧ d.reached = true ∧ d.startTimer = none ∧ d.stallTimer = none ∧ d.stallLimit = none ∧
      d.stopTimer = none
  | .stalled =>
    d.Holds d.stopId ∧ d.reached = true ∧ d.startTimer = none ∧ d.stallTimer = none ∧
      (∃ k, d.stallLimit = some k ∧ k ≤ 8000) ∧ d.stopTimer = none
  | .stopping =>
    d.Holds 0 ∧ d.startTimer = none ∧ d.stallTimer = none ∧ d.stallLimit = none ∧
      ∃ k, d.stopTimer = some k ∧ k ≤ 2000

/-- The deck is in a row of its table, and F, B and E are in range (R75). -/
structure Deck.Rule (d : Deck) : Prop where
  row : d.TableRow
  floor : d.floor ≤ 3599999
  lastMark : d.lastMark ≤ 3599999
  elapsed : d.elapsed ≤ 500

/-! ## The lyric sequencer (R94, R102) -/

/-- The window holds at most `rows` lines with consecutive indices, the last of them just before the cursor (R94). -/
structure Sequencer.Rule (q : Sequencer) : Prop where
  fits : q.window.length ≤ q.settings.rows
  behind : q.window.length ≤ q.cursor
  consecutive : q.window = List.range' (q.cursor - q.window.length) q.window.length
  forced : q.forced ≤ 65535

/-! ## The microphone front end (R122, R128, R135, R136) -/

/-- The ranges of a microphone's state; Q is absent while the gate is CLOSED and the counter stands at 0 without a last edge
(R122, R128). -/
structure MicState.Rule (m : MicState) : Prop where
  openRun : m.openRun ≤ 2
  closeRun : m.closeRun ≤ 4
  counter : m.counter ≤ 65535
  stopped : m.lastEdge = false → m.counter = 0
  noInterval : m.gateOpen = false → m.previous = none
  interval : ∀ q, m.previous = some q → 800 ≤ q ∧ q ≤ 16000

/-- The settle timer is armed in SETTLING alone, for at most 20 ms; out of ON no conversion is in flight and both
microphones are closed (R123, R135, R136). -/
structure FrontEnd.Rule (f : FrontEnd) : Prop where
  micA : f.micA.Rule
  micB : f.micB.Rule
  settle : f.settleTimer.isSome = true ↔ f.activity = .settling
  settleTime : ∀ k, f.settleTimer = some k → k ≤ 20
  quiet : f.activity ≠ .on → f.conversion = none ∧ f.micA = MicState.closed ∧ f.micB = MicState.closed

/-! ## The pitch grader (R139, R140, R147 to R150, R152) -/

/-- A present score lies from 0 to 1000 (R150). -/
def ScoreInRange (v : Option Nat) : Prop := ∀ x, v = some x → x ≤ 1000

/-- S is at most 100 × W, notes on pitch are sung and sung notes are judged, a grade NONE leans CENTRE, and a microphone that
is not scored holds nothing (R139, R140, R148, R150). -/
structure MicGrade.Rule (g : MicGrade) : Prop where
  total : g.total ≤ 100 * g.weight
  sung : g.sung ≤ g.judged
  onPitch : g.onPitch ≤ g.sung
  lean : g.live.grade = .none → g.live.lean = .centre
  unscored : g.parts = none → g = MicGrade.unscored

/-- The scores of a final report are in range (R150, R152). -/
structure FinalReport.Rule (f : FinalReport) : Prop where
  scoreA : ScoreInRange f.scoreA
  scoreB : ScoreInRange f.scoreB
  entryScore : ScoreInRange f.entryScore

/-- Both microphones and the report keep their rules. -/
structure Grader.Rule (g : Grader) : Prop where
  micA : g.micA.Rule
  micB : g.micB.Rule
  report : ∀ f, g.report = some f → f.Rule

/-! ## The results store (R161, R163, R166) -/

/-- One board record stands ahead of another: a higher score, or an equal one that finished no later (R166). -/
def BoardRecord.Ahead (x y : BoardRecord) : Prop := y.score < x.score ∨ (x.score = y.score ∧ x.finish ≤ y.finish)

/-- At most sixteen records, newest first; at most eight board records in order; scores and finish numbers in range (R161,
R163, R166). -/
structure Results.Rule (v : Results) : Prop where
  counter : v.counter ≤ 65535
  historySize : v.history.length ≤ 16
  scores : ∀ r ∈ v.history, ScoreInRange r.scoreA ∧ ScoreInRange r.scoreB ∧ ScoreInRange r.entryScore
  finish : ∀ r ∈ v.history, 1 ≤ r.finish ∧ r.finish ≤ v.counter
  newestFirst : v.history.Pairwise fun x y => y.finish ≤ x.finish
  boardSize : v.board.length ≤ 8
  boardScores : ∀ r ∈ v.board, r.score ≤ 1000 ∧ 1 ≤ r.finish ∧ r.finish ≤ v.counter
  boardOrder : v.board.Pairwise BoardRecord.Ahead

/-! ## The configuration set (R95, R194, R195) -/

/-- The five lyric settings in their ranges (R95, R194). -/
structure LyricSettings.Rule (c : LyricSettings) : Prop where
  rows : 2 ≤ c.rows ∧ c.rows ≤ 4
  lead : 500 ≤ c.lead ∧ c.lead ≤ 8000
  hold : c.hold ≤ 2000
  scroll : 100 ≤ c.scroll ∧ c.scroll ≤ 1000
  gap : 2000 ≤ c.gap ∧ c.gap ≤ 20000

/-- The configuration set in its ranges, the close threshold at or below the open one (R194, R195). -/
structure Settings.Rule (c : Settings) : Prop where
  lyric : c.lyric.Rule
  openThreshold : c.openThreshold ≤ 1023
  closeThreshold : c.closeThreshold ≤ c.openThreshold

/-! ## Staging and the directive (R49 to R51, R69, R180) -/

/-- What the staging bank holds in each staging state (R50). -/
def SongStore.BankAsState (st : SongStore) : Prop :=
  match st.state with
  | .empty => st.staging = Bank.cleared
  | .requested => st.staging = Bank.cleared
  | .loading => ∃ h, st.staging.header = some h ∧ some h.entryId = st.owner
  | .ready => ∃ h, st.staging.header = some h ∧ some h.entryId = st.owner ∧
      st.staging.counts = ⟨h.lines, h.syllables, h.glyphs, h.notes⟩

namespace State

/-- Staging prepares the head: the owner is the head's id, the state is EMPTY exactly while the queue is empty, and the bank
is as the state says (R50). -/
structure StagingRule (s : State) : Prop where
  owner : s.store.owner = s.room.headId
  empty : s.store.state = .empty ↔ s.room.entries = []
  bank : s.store.BankAsState

/-- The posted fields are those the deck and the staging controller keep in step with their states (R51, R69). -/
def Posted (s : State) : Prop := s.port.directive = s.directiveNow

/-- The ids carried by queue entries, by a current entry that is not finished and by history records (R4, R68). -/
def carriedIds (s : State) : List Nat :=
  s.room.entries.map (·.id) ++ (s.deck.current.toList.map (·.id)).filter (· != 0) ++ s.results.history.map (·.id)

/-- No id is carried twice, and every id is from 1 to 250, the stop id among them (R2, R4, R67). -/
structure IdRule (s : State) : Prop where
  once : s.carriedIds.Nodup
  range : ∀ i ∈ s.carriedIds, 1 ≤ i ∧ i ≤ 250
  stopId : s.deck.state ≠ .idle → 1 ≤ s.deck.stopId ∧ s.deck.stopId ≤ 250
  last : s.room.lastId ≤ 250

/-- In standby the microphone front end is off, out of it it is not, and the deck is IDLE from standby entry to standby exit
(R93, R135, R136, R200). -/
structure StandbyRule (s : State) : Prop where
  front : s.desk.standby = true ↔ s.front.activity = .off
  deck : s.desk.standby = true → s.deck.state = .idle

/-- Every rule at once. -/
structure Sound (s : State) : Prop where
  room : s.room.Rule
  panelA : s.panelA.Rule
  panelB : s.panelB.Rule
  deck : s.deck.Rule
  lyric : s.lyric.Rule
  front : s.front.Rule
  grader : s.grader.Rule
  results : s.results.Rule
  settings : s.desk.settings.Rule
  lyricSettings : s.lyric.settings.Rule
  staging : s.StagingRule
  posted : s.Posted
  ids : s.IdRule
  standby : s.StandbyRule

/-! ## When a line takes what it carries -/

/-- A panel line's request stage takes a frame as it would be handled outside standby: out of reset, the reply slot EMPTY
(R32). -/
def Takes (s : State) (l : PanelLine) : Prop :=
  s.running = true ∧ (s.panel l).slot = .empty ∧ s.desk.standby = false

/-- The media port takes a command at its check byte: out of reset, in COMMAND (R174). -/
def AtCheck (s : State) : Prop := s.running = true ∧ s.port.state = .command

/-- A command's kind, payload and check as they are carried sum to 0, with the two bytes of its length (R173). -/
def SumsToZero (kind : Byte) (p : List Byte) (check : Byte) : Prop :=
  (kind.toNat + p.length / 256 + p.length % 256 + (p.map BitVec.toNat).sum + check.toNat) % 256 = 0

/-- A desk write ends while the desk line unit is WRITING (R188). -/
def AtWrite (s : State) : Prop := s.running = true ∧ s.desk.bus = .writing

end State

/-! ## What each line keeps of an answer -/

/-- A panel line unit once a reply has arrived in its slot: an IDLE shift sends it at the line's rate, else it waits (R35,
R36). -/
def PanelUnit.told (u : PanelUnit) (r : PanelReply) : PanelUnit :=
  { u with
    slot := if u.shift = none then .empty else .full r
    shift := if u.shift = none then some ⟨r, u.rate⟩ else u.shift }

/-- The media port once a command has been answered: ANSWER at its first byte, with the answer as the last answer record
(R174, R179). -/
def MediaPort.told (m : MediaPort) (code : ResultCode) (payload : List Byte) : MediaPort :=
  { m with state := .answer, place := 0, lastAnswer := ⟨code, payload⟩ }

/-- The desk line unit once a write has ended with a reply: IDLE, no timeout, the reply as the reply record (R187, R188,
R191). -/
def DeskUnit.told (u : DeskUnit) (code : ResultCode) (kind : Byte) (payload : List Byte) : DeskUnit :=
  { u with bus := .idle, busTimer := none, reply := some ⟨code, kind, payload⟩ }

/-- The directive with its play order changed, and its change count advanced by one (R180). -/
def MediaPort.ordered (m : MediaPort) (o : PlayOrder) : MediaPort :=
  { m with directive := { m.directive with playOrder := o }, changeCount := (m.changeCount + 1) % 256 }

namespace State

/-- The state with a reply arrived at a panel line. -/
def replied (s : State) (l : PanelLine) (r : PanelReply) : State := s.setPanel l ((s.panel l).told r)

/-- The state with the media port's answer given. -/
def answered (s : State) (code : ResultCode) (payload : List Byte) : State := s.setPort (s.port.told code payload)

/-- The state with the desk's reply recorded. -/
def recorded (s : State) (code : ResultCode) (kind : Byte) (payload : List Byte) : State :=
  s.setDesk (s.desk.told code kind payload)

/-- The directive posted with these fields: when they differ from the posted ones they are taken, and the change count
advances by one, from 255 to 0 (R180). -/
def posting (s : State) (d : DirectiveFields) : State :=
  if d = s.port.directive then s
  else s.setPort { s.port with directive := d, changeCount := (s.port.changeCount + 1) % 256 }

end State

/-! ## The row of a complete frame -/

/-- The row of the table that a complete panel frame is (R32, section 11.3). -/
def Instr.ofFrame (l : PanelLine) (kind : Byte) (p : List Byte) : Instr :=
  if kind = 0x10#8 then .askSong l p
  else if kind = 0x11#8 then .dropEntry l p
  else if kind = 0x12#8 then .shiftEntry l p
  else if kind = 0x13#8 then .skipNow l p
  else if kind = 0x14#8 then .hold l p
  else if kind = 0x15#8 then .go l p
  else if kind = 0x16#8 then .key l p
  else if kind = 0x17#8 then .peekQueue l p
  else if kind = 0x18#8 then .peekNow l p
  else if kind = 0x19#8 then .peekPast l p
  else .panelUnknownKind l kind p

/-- The row of the table that a media port command is (R177, section 11.4); a time mark is of kind END by its fifth byte
(R79). -/
def Instr.ofCommand (kind : Byte) (p : List Byte) (check : Byte) : Instr :=
  if kind = 0x01#8 then .stageOpen p check
  else if kind = 0x02#8 then .line p check
  else if kind = 0x03#8 then .note p check
  else if kind = 0x04#8 then .stageClose p check
  else if kind = 0x05#8 then .stageFail p check
  else if kind = 0x06#8 then (if byteAt p 4 = 2#8 then .timeMarkEnd p check else .timeMarkRun p check)
  else if kind = 0x07#8 then .readDirective p check
  else if kind = 0x08#8 then .ackDirective p check
  else if kind = 0x09#8 then .readScene p check
  else if kind = 0x0A#8 then .repeatAnswer p check
  else .mediaUnknownKind kind p check

/-- The row of the table that a desk write is (section 10.6, section 11.5). -/
def Instr.ofWrite (kind : Byte) (p : List Byte) : Instr :=
  if kind = 0x40#8 then .status p
  else if kind = 0x41#8 then .readEvents p
  else if kind = 0x42#8 then .ackEvents p
  else if kind = 0x43#8 then .eventMask p
  else if kind = 0x44#8 then .creditsSet p
  else if kind = 0x45#8 then .creditsAdd p
  else if kind = 0x46#8 then .creditsUnlimited p
  else if kind = 0x47#8 then .lock p
  else if kind = 0x48#8 then .unlock p
  else if kind = 0x49#8 then .configSet p
  else if kind = 0x4A#8 then .configRead p
  else if kind = 0x4B#8 then .insertPriority p
  else if kind = 0x4C#8 then .promote p
  else if kind = 0x4D#8 then .move p
  else if kind = 0x4E#8 then .remove p
  else if kind = 0x4F#8 then .stopSong p
  else if kind = 0x50#8 then .readQueue p
  else if kind = 0x51#8 then .readHistory p
  else if kind = 0x52#8 then .readBoard p
  else if kind = 0x53#8 then .readLineCounters p
  else if kind = 0x54#8 then .newSession p
  else if kind = 0x55#8 then .roomClear p
  else if kind = 0x56#8 then .standby p
  else if kind = 0x57#8 then .wake p
  else if kind = 0x58#8 then .deskReset p
  else .deskUnknownKind kind p

/-! ## What a head change and a start bring about -/

/-- The store with the bank that has the staging role cleared (R48). -/
def SongStore.emptied (st : SongStore) : SongStore :=
  if st.stagingIsBank0 then { st with bank0 := Bank.cleared } else { st with bank1 := Bank.cleared }

namespace State

/-- Staging told of a new head, or of none: its bank is empty, the head's song is asked for, and the directive says so
(R51, R52). -/
def asks (s : State) (head : Option Entry) : State :=
  (s.setStore { s.store.emptied with
      state := if head.isSome then .requested else .empty
      owner := head.map (·.id) }).posting
    { s.port.directive with
      stageOrder := if head.isSome then .load else .none
      stageId := (head.map (·.id)).getD 0
      stageSong := (head.map (·.song)).getD 0 }

/-- Every start condition but the credits holds (R70). -/
def ReadyButForCredits (s : State) : Prop :=
  s.deck.state = .idle ∧ s.desk.standby = false ∧ s.room.locked = false ∧ s.room.entries ≠ [] ∧ s.store.state = .ready

/-- A re-examination that finds a shortage of credits: CREDITS_OUT and the mark, once (R20). -/
def shorted (s : State) : State :=
  if s.room.shortage then s else (s.setRoom { s.room with shortage := true }).raise .creditsOut

/-- A microphone at the beginning of a song whose note track is `notes`, scored against the part set, or not scored (R140). -/
def micBegins (notes : List NoteRecord) : Option PartSet → MicGrade
  | none => ⟨none, 0, none, ⟨.none, .centre⟩, 0, 0, 0, 0, 0⟩
  | some ps => ⟨some ps, notes.findIdx fun n => ps.holds n.part, none, ⟨.none, .centre⟩, 0, 0, 0, 0, 0⟩

/-- The start of entry `e`, with `rest` behind it: it leaves the queue for the deck, the banks swap roles, the next head is
asked for, both followers begin the song, and the directive is posted once (R17, R64, R71, R96, R140).  Of the song before, only
the forced exits that its waiting advances bring are kept (R76, R102). -/
def begins (s : State) (e : Entry) (rest : List Entry) : State :=
  { s with
    room := { s.room with entries := rest, shortage := false }
    deck := { state := .starting, current := some e, stopId := e.id, reached := false, floor := 0, lastMark := 0,
              elapsed := 0, startTimer := some 3000, stallTimer := none, stallLimit := none, stopTimer := none }
    store := { bank0 := if s.store.stagingIsBank0 then s.store.bank0 else Bank.cleared
               bank1 := if s.store.stagingIsBank0 then Bank.cleared else s.store.bank1
               stagingIsBank0 := !s.store.stagingIsBank0
               state := if rest = [] then .empty else .requested
               owner := rest.head?.map (·.id) }
    lyric := { window := [], cursor := 0, scroll := none, countdown := none, search := 0, inbox := []
               settings := s.desk.settings.lyric, forced := (s.lyric.takeAll s.store.playing).forced }
    grader := { mode := .following, invalid := false, report := none, inbox := []
                micA := micBegins s.store.staging.notes (if e.micMode = .soloB then none else some .part1)
                micB := micBegins s.store.staging.notes (if e.micMode = .soloA then none
                  else if e.micMode = .soloB then some .part1 else some .part2) }
    port := { s.port with
      directive := { playOrder := .play, playId := e.id, playSong := e.song, keyShift := e.keyShift
                     stageOrder := if rest = [] then .none else .load
                     stageId := (rest.head?.map (·.id)).getD 0
                     stageSong := (rest.head?.map (·.song)).getD 0 }
      changeCount := (s.port.changeCount + 1) % 256 }
    desk := { s.desk with flags := s.desk.flags.raise .queueChanged } }

/-- `t` is `s` once its start conditions have been re-examined: the head started, a shortage noted, or nothing (R20, R70). -/
def Reexamined (s t : State) : Prop :=
  (¬s.ReadyButForCredits → t = s) ∧
  (s.ReadyButForCredits → s.room.credits = 0 → s.room.unlimited = false → t = s.shorted) ∧
  (s.ReadyButForCredits → 1 ≤ s.room.credits ∨ s.room.unlimited = true →
    ∀ e rest, s.room.entries = e :: rest → t = s.begins e rest)

/-- The directive with nothing to play posted (R69). -/
def playless (s : State) : State :=
  s.posting { s.port.directive with playOrder := .none, playId := 0, playSong := 0, keyShift := 0 }

/-- `t` is `s` with its deck returned to IDLE, the start conditions re-examined, and the directive posted once (R69, R90). -/
def Idled (s t : State) : Prop :=
  let idle := s.setDeck { state := .idle, current := none, stopId := 0, reached := false, floor := 0, lastMark := 0,
                          elapsed := 0, startTimer := none, stallTimer := none, stallLimit := none, stopTimer := none }
  (¬idle.ReadyButForCredits → t = idle.playless) ∧
  (idle.ReadyButForCredits → s.room.credits = 0 → s.room.unlimited = false → t = idle.shorted.playless) ∧
  (idle.ReadyButForCredits → 1 ≤ s.room.credits ∨ s.room.unlimited = true →
    ∀ e rest, s.room.entries = e :: rest → t = idle.begins e rest)

/-! ## Advances and the end of a song -/

/-- Both followers handed an advance (R76). -/
def handed (s : State) (a : Advance) : State :=
  (s.setLyric { s.lyric with inbox := s.lyric.inbox ++ [a] }).setGrader { s.grader with inbox := s.grader.inbox ++ [a] }

end State

/-- The history record of an entry: what it carried at the end, its outcome, what the grader reported, if it did, its play
duration and its finish number (R89, R161, R162). -/
def Entry.record (e : Entry) (o : SongOutcome) (f : Option FinalReport) (duration finish : Nat) : HistoryRecord :=
  { id := e.id, song := e.song, singer := e.singer, origin := e.origin, priority := e.priority, micMode := e.micMode,
    keyShift := e.keyShift, outcome := o, scoreA := f.bind (·.scoreA), scoreB := f.bind (·.scoreB),
    entryScore := f.bind (·.entryScore), invalid := (f.map (·.invalid)).getD false, countsA := f.bind (·.countsA),
    countsB := f.bind (·.countsB), duration := duration, finish := finish }

/-- A score offered to the board takes a place: fewer than eight of its scores are as high (R166). -/
def Results.hasPlaceFor (v : Results) (score : Nat) : Prop := v.board.countP (fun x => decide (score ≤ x.score)) < 8

namespace State

/-- The finish number that the next record takes (R163). -/
def nextFinish (s : State) : Nat := if s.results.counter < 65535 then s.results.counter + 1 else 65535

/-- The state with a record added to the history: newest first, at most sixteen, the counter advanced, SONG_DONE set
(R163). -/
def archived (s : State) (r : HistoryRecord) : State :=
  (s.setResults { s.results with history := (r :: s.results.history).take 16, counter := s.nextFinish }).raise .songDone

/-- The state with a board record inserted behind every record of at least its score, a ninth dropped, and BOARD_CHANGED set
(R166). -/
def ranked (s : State) (r : BoardRecord) : State :=
  let ahead := s.results.board.countP fun x => decide (r.score ≤ x.score)
  (s.setResults { s.results with board := (s.results.board.take ahead ++ r :: s.results.board.drop ahead).take 8 }).raise
    .boardChanged

/-- The state with a song's record added and offered to the board: only a COMPLETED song with a score and no invalid flag is
(R163, R165, R166). -/
def Archives (s : State) (r : HistoryRecord) (t : State) : Prop :=
  (∀ score, r.outcome = .completed → r.entryScore = some score → r.invalid = false → s.results.hasPlaceFor score →
    t = (s.archived r).ranked ⟨score, r.song, r.singer, r.origin, r.micMode, r.id, r.finish⟩) ∧
  (r.outcome ≠ .completed ∨ r.entryScore = none ∨ r.invalid = true ∨
      (∃ score, r.entryScore = some score ∧ ¬s.results.hasPlaceFor score) → t = s.archived r)

/-- The deck in STOPPING, with `e` its finished entry and its final play time `t`; the directive says STOP (R69, R88, R90). -/
def stopping (s : State) (e : Entry) (t : Nat) : State :=
  (s.setDeck { s.deck with
    state := .stopping, current := some { e with id := 0 }, floor := t, startTimer := none, stallTimer := none,
    stallLimit := none, stopTimer := some 2000 }).setPort (s.port.ordered .stop)

end State

/-! ## What an advance makes of the lyric window -/

namespace Sequencer

/-- One step of the window at play time `t`: the cursor line `l` enters a free row; or it is waiting and the oldest line makes
way, by a normal exit or, where that one's conditions do not all hold, by a forced one (R98 to R102). -/
inductive WindowMove (b : Bank) (t : Nat) : Sequencer → Sequencer → Prop
  | entry (q : Sequencer) (l : LyricLine) : b.lyrics[q.cursor]? = some l → q.window.length < q.settings.rows →
      l.start ≤ t + q.settings.lead → WindowMove b t q { q with window := q.window ++ [q.cursor], cursor := q.cursor + 1 }
  | normalExit (q : Sequencer) (l : LyricLine) (first : Nat) (rest : List Nat) : b.lyrics[q.cursor]? = some l →
      q.window = first :: rest → q.settings.rows ≤ q.window.length → l.start ≤ t + q.settings.lead → q.scroll = none →
      b.lineEndAt first + q.settings.hold ≤ t →
      WindowMove b t q { q with window := rest ++ [q.cursor], cursor := q.cursor + 1, scroll := some ⟨first, t⟩ }
  | forcedExit (q : Sequencer) (l : LyricLine) (first : Nat) (rest : List Nat) : b.lyrics[q.cursor]? = some l →
      q.window = first :: rest → q.settings.rows ≤ q.window.length → l.start ≤ t →
      q.scroll ≠ none ∨ t < b.lineEndAt first + q.settings.hold →
      WindowMove b t q { q with
        window := rest ++ [q.cursor], cursor := q.cursor + 1, scroll := some ⟨first, t⟩,
        forced := if q.forced < 65535 then q.forced + 1 else 65535 }

/-- `r` is `q` after the countdown search at play time `t`: lines from the search index on are passed over until one has a gap
of at least the threshold before it and has not started; its countdown begins if its interval has, and is waited for if not
(R109, R110). -/
def Searched (b : Bank) (t : Nat) (q r : Sequencer) : Prop :=
  let before (i : Nat) : Nat := if i = 0 then 0 else (b.lyrics[i - 1]?.map (·.endTime)).getD 0
  let step (l : LyricLine) : Nat := l.override.getD ((b.header.map (·.step)).getD 0)
  let Awaits (i : Nat) (l : LyricLine) : Prop := q.settings.gap ≤ l.start - before i ∧ t < l.start
  (q.countdown ≠ none → r = q) ∧
  (q.countdown = none → ∃ j, q.search ≤ j ∧
    (∀ i, q.search ≤ i → i < j → ∃ l, b.lyrics[i]? = some l ∧ ¬Awaits i l) ∧
    (b.lyrics[j]? = none → r = { q with search := j }) ∧
    (∀ l, b.lyrics[j]? = some l → Awaits j l ∧
      r = if max (l.start - 4 * step l) (before j) ≤ t then { q with countdown := some ⟨j, step l⟩, search := j + 1 }
        else { q with search := j }))

/-- `r` is `q` brought forward to play time `t`: the scroll and the countdown that are over have ended, the window has moved
until no entry and no exit applies, and the countdown search has been made (R97). -/
def Stepped (b : Bank) (t : Nat) (q r : Sequencer) : Prop :=
  let ended : Sequencer :=
    { q with
      scroll := q.scroll.filter fun c => decide (t < c.start + q.settings.scroll)
      countdown := q.countdown.filter fun c => decide (∃ l, b.lyrics[c.line]? = some l ∧ t < l.start) }
  ∃ moved, Relation.ReflTransGen (WindowMove b t) ended moved ∧ (∀ x, ¬WindowMove b t moved x) ∧ Searched b t moved r

end Sequencer

/-! ## What an advance makes of a microphone's notes -/

namespace MicGrade

/-- A microphone once its open note `o` has been judged with weight `w` (R147, R148). -/
def judgedWith (g : MicGrade) (o : OpenNote) (w : Nat) : MicGrade :=
  let n := o.exact + o.close + o.miss
  let points := if n < 5 then 0 else (100 * o.exact + 60 * o.close) / n
  { g with
    openNote := none
    total := g.total + points * w
    weight := g.weight + w
    judged := g.judged + 1
    sung := if 5 ≤ n then g.sung + 1 else g.sung
    onPitch := if 70 ≤ points then g.onPitch + 1 else g.onPitch }

/-- A length of time as a note's weight: at most 4000 ms of it, doubled for a golden note (R147, R151). -/
def weighed (o : OpenNote) (length : Nat) : Nat := if o.golden then 2 * min length 4000 else min length 4000

/-- One step of a scored microphone's notes at play time `t`: the open note has ended and is judged; or none is open and the
cursor note has begun and opens, and the cursor passes to the next note of the microphone's parts (R141 to R143, R147, R148). -/
inductive NoteMove (notes : List NoteRecord) (ps : PartSet) (key : Int) (t : Nat) : MicGrade → MicGrade → Prop
  | close (g : MicGrade) (o : OpenNote) : g.openNote = some o → o.start + o.duration ≤ t →
      NoteMove notes ps key t g (g.judgedWith o (weighed o o.duration))
  | opening (g : MicGrade) (n : NoteRecord) (next : Nat) : g.openNote = none → notes[g.cursor]? = some n → n.start ≤ t →
      g.cursor < next → next ≤ notes.length → (∀ m, notes[next]? = some m → ps.holds m.part = true) →
      (∀ i m, g.cursor < i → i < next → notes[i]? = some m → ps.holds m.part = false) →
      NoteMove notes ps key t g { g with
        openNote := some ⟨g.cursor, n.start, n.duration, n.golden, (n.number + key).toNat, periodOf (n.number + key).toNat,
          0, 0, 0⟩
        live := ⟨.none, .centre⟩
        cursor := next }

/-- `r` is a microphone `g` with its notes brought forward to play time `t`, until neither step applies; a microphone that is
not scored stays as it is (R142). -/
def Followed (notes : List NoteRecord) (key : Int) (t : Nat) (g r : MicGrade) : Prop :=
  (g.parts = none → r = g) ∧
  (∀ ps, g.parts = some ps → Relation.ReflTransGen (NoteMove notes ps key t) g r ∧ ∀ x, ¬NoteMove notes ps key t r x)

/-- A microphone at finalisation at play time `t`: an open note is judged for the part of it that was reached, and left out
where that is nothing; the live indicator is NONE (R151). -/
def finishedAt (t : Nat) (g : MicGrade) : MicGrade :=
  { (match g.openNote with
      | none => g
      | some o =>
        if weighed o (t - o.start) = 0 then { g with openNote := none }
        else g.judgedWith o (weighed o (t - o.start))) with live := ⟨.none, .centre⟩ }

end MicGrade

end Sys2Proof.Machine
end

