-- ==== Sys2Proof/WellFormed.lean ====
section
/-! DEFINITION. Which operands a command of the table can have: what can reach the controller under the row's name.

A term that fails these checks names no event of its row; `exec` gives every term a next state all the same. -/

namespace Sys2Proof

/-- The lowest and highest kind bytes of the panel requests (section 11.3). -/
def isPanelKind (b : Byte) : Bool := decide (0x10 ≤ b.toNat ∧ b.toNat ≤ 0x19)

/-- The kind bytes of the media port commands (section 11.4). -/
def isMediaKind (b : Byte) : Bool := decide (0x01 ≤ b.toNat ∧ b.toNat ≤ 0x0A)

/-- The kind bytes of the desk commands (section 11.5). -/
def isDeskKind (b : Byte) : Bool := decide (0x40 ≤ b.toNat ∧ b.toNat ≤ 0x58)

/-- A complete panel frame has at most 16 payload bytes (R27). -/
def panelPayloadFits (p : List Byte) : Bool := decide (p.length ≤ 16)

/-- A media port command has a two-byte payload length (R173). -/
def mediaPayloadFits (p : List Byte) : Bool := decide (p.length ≤ 65535)

/-- The kind byte of a time mark is END (section 11.2). -/
def marksEnd (p : List Byte) : Bool := p[4]? == some 2#8

/-- The operands a command of each row can have. -/
def Instr.wellFormed : Instr → Bool
  | .panelBreak _ => true
  | .panelCharacter _ _ _ _ => true
  | .gap _ => true
  | .askSong _ p => panelPayloadFits p
  | .dropEntry _ p => panelPayloadFits p
  | .shiftEntry _ p => panelPayloadFits p
  | .skipNow _ p => panelPayloadFits p
  | .hold _ p => panelPayloadFits p
  | .go _ p => panelPayloadFits p
  | .key _ p => panelPayloadFits p
  | .peekQueue _ p => panelPayloadFits p
  | .peekNow _ p => panelPayloadFits p
  | .peekPast _ p => panelPayloadFits p
  | .panelUnknownKind _ kind p => !isPanelKind kind && panelPayloadFits p
  | .shiftCompletion _ => true
  | .msnFall => true
  | .msnRise => true
  | .stageOpen p _ => mediaPayloadFits p
  | .line p _ => mediaPayloadFits p
  | .note p _ => mediaPayloadFits p
  | .stageClose p _ => mediaPayloadFits p
  | .stageFail p _ => mediaPayloadFits p
  | .timeMarkRun p _ => mediaPayloadFits p && !marksEnd p
  | .timeMarkEnd p _ => mediaPayloadFits p && marksEnd p
  | .readDirective p _ => mediaPayloadFits p
  | .ackDirective p _ => mediaPayloadFits p
  | .readScene p _ => mediaPayloadFits p
  | .repeatAnswer p _ => mediaPayloadFits p
  | .mediaUnknownKind kind p _ => !isMediaKind kind && mediaPayloadFits p
  | .millisecondTick => true
  | .startTimerExpiry => true
  | .stallTimerExpiry => true
  | .stallLimitExpiry => true
  | .stopTimerExpiry => true
  | .lyricStep => true
  | .lyricRebuild => true
  | .lyricNewSong => true
  | .lyricDropSong => true
  | .graderStep => true
  | .graderRewind => true
  | .graderNewSong => true
  | .graderFinalScores => true
  | .graderSongEnded => true
  | .graderDiscard => true
  | .conversionCompletion _ => true
  | .zeroCrossEdge _ _ => true
  | .settleTimerExpiry => true
  | .deskBusTimeout => true
  | .status _ => true
  | .readEvents _ => true
  | .ackEvents _ => true
  | .eventMask _ => true
  | .creditsSet _ => true
  | .creditsAdd _ => true
  | .creditsUnlimited _ => true
  | .lock _ => true
  | .unlock _ => true
  | .configSet _ => true
  | .configRead _ => true
  | .insertPriority _ => true
  | .promote _ => true
  | .move _ => true
  | .remove _ => true
  | .stopSong _ => true
  | .readQueue _ => true
  | .readHistory _ => true
  | .readBoard _ => true
  | .readLineCounters _ => true
  | .newSession _ => true
  | .roomClear _ => true
  | .standby _ => true
  | .wake _ => true
  | .deskReset _ => true
  | .deskUnknownKind kind _ => !isDeskKind kind
  | .powerOn => true
  | .lowSupply => true
  | .resetPin => true
  | .leavingReset _ => true
  | .lineReturnsHigh _ => true
  | .deskStartCondition _ => true
  | .deskStopCondition => true
  | .supplyRecovery => true
  | .rstnRelease => true

end Sys2Proof
end

