-- ==== Sys2Proof/Certificates/Slice0/Obligations.lean ====
section
/-! DEFINITION. The statements for the provers.

A statement gives the whole next state of its commands, in the spec's terms, so that what a command leaves unchanged is part
of what it says.  `Sys2Proof.Machine.State.Takes`, `AtCheck` and `AtWrite` say when a line takes what it carries. -/

open Sys2Proof Sys2Proof.Machine Sys2Proof.Machine.State

/-! ## Chapter 1: the room queue -/

/-- R4: the id issued is the first after the last one, with 1 after 250, that is not in use; at most 32 entries, 16 records, a
current entry and a staging owner leave one free. -/
def Obligations.IssuedIdIsFirstFreeAfterLast : Prop :=
  (∀ (used : List Nat) (last : Nat), last ≤ 250 → (∃ i, 1 ≤ i ∧ i ≤ 250 ∧ i ∉ used) →
    let after (d : Nat) : Nat := (last + d) % 250 + 1
    ∃ d < 250, issueId used last = after d ∧ after d ∉ used ∧ ∀ j < d, after j ∈ used) ∧
  (∀ s : State, s.room.lastId ≤ 250 → s.room.entries.length ≤ 32 → s.results.history.length ≤ 16 →
    issueId s.idsInUse s.room.lastId ∉ s.idsInUse ∧ 1 ≤ issueId s.idsInUse s.room.lastId ∧
    issueId s.idsInUse s.room.lastId ≤ 250)

/-- R6, R7, R8 with the fields of R2, R3: an ASK SONG that passes every check makes an entry at the end of the queue; into an
empty queue it is a head change. -/
def Obligations.AskSongPlacesEntryLast : Prop :=
  ∀ (l : PanelLine) (p : List Byte) (s : State) (mode : MicMode) (e : Entry),
    s.Takes l → s.StagingRule → s.Posted → p.length = 6 → s.room.locked = false → s.room.entries.length < 32 →
    s.room.entries.countP (·.origin == lineOrigin l) < s.room.quota →
    1 ≤ fieldAt p 0 3 → fieldAt p 0 3 ≤ 999999 → micModeOf (byteAt p 4) = some mode →
    e = { id := issueId s.idsInUse s.room.lastId, song := fieldAt p 0 3, singer := min (byteAt p 3).toNat 15,
          origin := lineOrigin l, priority := false, micMode := mode, keyShift := max (-6) (min 6 (byteAt p 5).toInt),
          arrival := if s.room.arrivals < 65535 then s.room.arrivals + 1 else 1 } →
    let placed := (s.setRoom { s.room with
      entries := s.room.entries ++ [e], lastId := e.id, arrivals := e.arrival }).raise .queueChanged
    exec (.askSong l p) s = .next ((if s.room.entries = [] then placed.asks (some e) else placed).replied l
      ⟨0x80#8, [0x10#8, byteOf e.id, byteOf (s.room.entries.length + 1)]⟩)

/-- R7: the checks of a submission in their order; the first that fails refuses it, and nothing but the reply changes. -/
def Obligations.SubmissionRefusedByFirstFailedCheck : Prop :=
  (∀ (l : PanelLine) (p : List Byte) (s : State), s.Takes l → p.length = 6 →
    let held := s.room.entries.countP (·.origin == lineOrigin l)
    let fieldsBad := fieldAt p 0 3 = 0 ∨ 999999 < fieldAt p 0 3 ∨ micModeOf (byteAt p 4) = none
    let no (code : Byte) := s.replied l ⟨0x81#8, [0x10#8, code]⟩
    (s.room.locked = true → exec (.askSong l p) s = .next (no 3#8)) ∧
    (s.room.locked = false → 32 ≤ s.room.entries.length → exec (.askSong l p) s = .next (no 1#8)) ∧
    (s.room.locked = false → s.room.entries.length < 32 → s.room.quota ≤ held →
      exec (.askSong l p) s = .next (no 2#8)) ∧
    (s.room.locked = false → s.room.entries.length < 32 → held < s.room.quota → fieldsBad →
      exec (.askSong l p) s = .next (no 10#8))) ∧
  (∀ (p : List Byte) (s : State), s.AtWrite → p.length = 6 →
    (32 ≤ s.room.entries.length → exec (.insertPriority p) s = .next (s.recorded .full 0x4B#8 [])) ∧
    (s.room.entries.length < 32 →
      fieldAt p 0 3 = 0 ∨ 999999 < fieldAt p 0 3 ∨ micModeOf (byteAt p 4) = none →
      exec (.insertPriority p) s = .next (s.recorded .badField 0x4B#8 [])))

/-- R6, R8, R16: a desk INSERT PRIORITY, whatever the lock and the quota, places its entry directly after the last priority
entry; where there was none it takes the head. -/
def Obligations.InsertPriorityPlacesEntryAfterPriorityBlock : Prop :=
  ∀ (p : List Byte) (s : State) (mode : MicMode) (e : Entry),
    s.AtWrite → s.StagingRule → s.Posted → p.length = 6 → s.room.entries.length < 32 →
    1 ≤ fieldAt p 0 3 → fieldAt p 0 3 ≤ 999999 → micModeOf (byteAt p 4) = some mode →
    e.id ∉ s.room.entries.map (·.id) →
    e = { id := issueId s.idsInUse s.room.lastId, song := fieldAt p 0 3, singer := min (byteAt p 3).toNat 15,
          origin := .desk, priority := true, micMode := mode, keyShift := max (-6) (min 6 (byteAt p 5).toInt),
          arrival := if s.room.arrivals < 65535 then s.room.arrivals + 1 else 1 } →
    let ahead := s.room.entries.countP (·.priority)
    let placed := (s.setRoom { s.room with
      entries := s.room.entries.take ahead ++ e :: s.room.entries.drop ahead,
      lastId := e.id, arrivals := e.arrival }).raise .queueChanged
    exec (.insertPriority p) s = .next ((if ahead = 0 then placed.asks (some e) else placed).recorded .ok 0x4B#8
      [byteOf e.id, byteOf (ahead + 1)])

/-- R9, R13: a panel cancels an entry of its own, and the desk removes any entry, whatever its priority; no record is made, and
when the head goes the next head, or none, is named.  The refusals change nothing but the reply. -/
def Obligations.DropEntryAndRemoveTakeEntryOut : Prop :=
  ∀ (p : List Byte) (s : State), p.length = 1 → (s.room.entries.map (·.id)).Nodup →
    let i := (byteAt p 0).toNat
    let rest := s.room.entries.filter (·.id != i)
    let removed := (s.setRoom { s.room with entries := rest }).raise .queueChanged
    let taken := if s.room.entries.head?.map (·.id) = some i then removed.asks rest.head? else removed
    (∀ l, s.Takes l →
      (i ∉ s.room.entries.map (·.id) → exec (.dropEntry l p) s = .next (s.replied l ⟨0x81#8, [0x11#8, 4#8]⟩)) ∧
      (∀ e ∈ s.room.entries, e.id = i → e.origin ≠ lineOrigin l →
        exec (.dropEntry l p) s = .next (s.replied l ⟨0x81#8, [0x11#8, 5#8]⟩)) ∧
      (∀ e ∈ s.room.entries, e.id = i → e.origin = lineOrigin l → s.StagingRule → s.Posted →
        exec (.dropEntry l p) s = .next (taken.replied l ⟨0x80#8, [0x11#8]⟩))) ∧
    (s.AtWrite →
      (i ∉ s.room.entries.map (·.id) → exec (.remove p) s = .next (s.recorded .notFound 0x4E#8 [])) ∧
      (i ∈ s.room.entries.map (·.id) → s.StagingRule → s.Posted →
        exec (.remove p) s = .next (taken.recorded .ok 0x4E#8 [])))

/-- R10: the checks of a panel move and of a desk move in their order. -/
def Obligations.MoveRefusedByFirstFailedCheck : Prop :=
  ∀ (p : List Byte) (s : State), p.length = 2 → (s.room.entries.map (·.id)).Nodup →
    let i := (byteAt p 0).toNat
    (∀ l, s.Takes l →
      let no (code : Byte) := s.replied l ⟨0x81#8, [0x12#8, code]⟩
      (s.room.locked = true → exec (.shiftEntry l p) s = .next (no 3#8)) ∧
      (s.room.locked = false → i ∉ s.room.entries.map (·.id) → exec (.shiftEntry l p) s = .next (no 4#8)) ∧
      (s.room.locked = false → ∀ e ∈ s.room.entries, e.id = i → e.origin ≠ lineOrigin l →
        exec (.shiftEntry l p) s = .next (no 5#8)) ∧
      (s.room.locked = false → ∀ e ∈ s.room.entries, e.id = i → e.origin = lineOrigin l → e.priority = true →
        exec (.shiftEntry l p) s = .next (no 10#8))) ∧
    (s.AtWrite →
      (i ∉ s.room.entries.map (·.id) → exec (.move p) s = .next (s.recorded .notFound 0x4D#8 [])) ∧
      (∀ e ∈ s.room.entries, e.id = i → e.priority = true →
        exec (.move p) s = .next (s.recorded .badField 0x4D#8 [])))

/-- R11: an accepted move of the entry at position `j + 1` puts it at the clamped target and leaves the order of all others;
at its own position it changes nothing; a head change names the new head. -/
def Obligations.MovePutsEntryAtClampedTarget : Prop :=
  ∀ (p : List Byte) (s : State) (e : Entry) (j : Nat), p.length = 2 → (s.room.entries.map (·.id)).Nodup →
    s.StagingRule → s.Posted → s.room.entries[j]? = some e → e.id = (byteAt p 0).toNat → e.priority = false →
    let first := s.room.entries.countP (·.priority) + 1
    let target := (byteAt p 1).toNat
    let position :=
      if target < first then first else if s.room.entries.length < target then s.room.entries.length else target
    let others := s.room.entries.filter (·.id != e.id)
    let order := others.take (position - 1) ++ e :: others.drop (position - 1)
    let moved := (s.setRoom { s.room with entries := order }).raise .queueChanged
    let taken :=
      if position = j + 1 then s
      else if order.head?.map (·.id) = s.room.entries.head?.map (·.id) then moved
      else moved.asks order.head?
    (∀ l, s.Takes l → s.room.locked = false → e.origin = lineOrigin l →
      exec (.shiftEntry l p) s = .next (taken.replied l ⟨0x80#8, [0x12#8, byteOf position]⟩)) ∧
    (s.AtWrite → exec (.move p) s = .next (taken.recorded .ok 0x4D#8 [byteOf position]))

/-- R12: a promote of a normal entry makes it the last priority entry; a priority entry, the one at position `j + 1`, stays; an
id that no queue entry carries is NOT_FOUND. -/
def Obligations.PromoteMakesLastPriorityEntry : Prop :=
  ∀ (p : List Byte) (s : State), s.AtWrite → p.length = 1 → (s.room.entries.map (·.id)).Nodup →
    let i := (byteAt p 0).toNat
    let ahead := s.room.entries.countP (·.priority)
    (i ∉ s.room.entries.map (·.id) → exec (.promote p) s = .next (s.recorded .notFound 0x4C#8 [])) ∧
    (∀ (j : Nat) (e : Entry), s.room.entries[j]? = some e → e.id = i → e.priority = true →
      exec (.promote p) s = .next (s.recorded .ok 0x4C#8 [byteOf (j + 1)])) ∧
    (∀ e ∈ s.room.entries, e.id = i → e.priority = false → s.StagingRule → s.Posted →
      let others := s.room.entries.filter (·.id != i)
      let order := others.take ahead ++ { e with priority := true } :: others.drop ahead
      let promoted := (s.setRoom { s.room with entries := order }).raise .queueChanged
      let taken :=
        if order.head?.map (·.id) = s.room.entries.head?.map (·.id) then promoted else promoted.asks order.head?
      exec (.promote p) s = .next (taken.recorded .ok 0x4C#8 [byteOf (ahead + 1)]))

/-- R18, R20, R21, R70: the account commands clamp and saturate, clear the shortage mark as they must, and reply with the
account; LOCK and UNLOCK reply with the lock. A change of the credits or of the flag, and an UNLOCK, has the start
conditions re-examined. That the followers take what they were handed before a start is the model's choice (log entry 10). -/
def Obligations.AccountAndLockCommands : Prop :=
  ∀ (p : List Byte) (s : State), s.AtWrite → s.Posted →
    let amount := fieldAt p 0 2
    let on := byteAt p 0 != 0#8
    let set := { s.room with
      credits := if 999 < amount then 999 else amount, shortage := s.room.shortage && amount == 0 }
    let added := { s.room with
      credits := if 999 < s.room.credits + amount then 999 else s.room.credits + amount,
      shortage := s.room.shortage && amount == 0 }
    let unlimited := { s.room with unlimited := on, shortage := s.room.shortage && !on }
    let Taken (c : Instr) (kind : Byte) (room : RoomQueue) : Prop := ∃ t,
      exec c s = .next (t.recorded .ok kind
        [if room.unlimited then 1#8 else 0#8, byteOf (room.credits / 256), byteOf room.credits]) ∧
      (room.credits = s.room.credits → room.unlimited = s.room.unlimited → t = s.setRoom room) ∧
      (room.credits ≠ s.room.credits ∨ room.unlimited ≠ s.room.unlimited → (s.setRoom room).Reexamined t)
    (p.length = 2 → Taken (.creditsSet p) 0x44#8 set) ∧ (p.length = 2 → Taken (.creditsAdd p) 0x45#8 added) ∧
    (p.length = 1 → Taken (.creditsUnlimited p) 0x46#8 unlimited) ∧
    exec (.lock []) s = .next ((s.setRoom { s.room with locked := true }).recorded .ok 0x47#8 [1#8]) ∧
    ∃ t, exec (.unlock []) s = .next (t.recorded .ok 0x48#8 [0#8]) ∧
      (s.setRoom { s.room with locked := false }).Reexamined t

/-- R15, R42, R203: a queue page names its first position `k` (0 taken as 1) and carries the queue length and at most four
entries to a panel, eight to the desk; it changes nothing but the reply. -/
def Obligations.QueuePages : Prop :=
  ∀ (p : List Byte) (s : State), p.length = 1 →
    let first := if (byteAt p 0).toNat = 0 then 1 else (byteAt p 0).toNat
    let entry (e : Entry) (position : Nat) : List Byte :=
      [byteOf position, byteOf e.id, byteOf (e.song / 65536), byteOf (e.song / 256), byteOf e.song, byteOf e.singer,
        e.origin.code, if e.priority then 1#8 else 0#8, e.micMode.code, BitVec.ofInt 8 e.keyShift,
        byteOf (e.arrival / 256), byteOf e.arrival]
    let page (size : Nat) : List Byte :=
      let shown := (s.room.entries.drop (first - 1)).take size
      byteOf s.room.entries.length :: byteOf shown.length :: (shown.zipIdx first).flatMap fun x => entry x.1 x.2
    (∀ l, s.Takes l → exec (.peekQueue l p) s = .next (s.replied l ⟨0x82#8, page 4⟩)) ∧
    (s.AtWrite → exec (.readQueue p) s = .next (s.recorded .ok 0x50#8 (page 8)))

/-! ## Chapter 2: the panel lines -/

/-- R26, R28, R29, R30, R45: a break at a receiver that watches, or that waits for a line which is high, adopts the
pending rate and awaits a lead byte; in a frame in progress it is a CUT. A receiver waiting on a low line takes no break.
A GAP ends a frame in progress whose gap count runs. In any other condition a GAP changes nothing, which is the model's
choice (log entry 7). -/
def Obligations.PanelBreakAndGap : Prop :=
  ∀ (l : PanelLine) (s : State), s.running = true →
    let u := s.panel l
    let inProgress := u.assembler ≠ .outside ∧ u.assembler ≠ .awaitLead
    let taken (counters : LineCounters) := s.setPanel l { u with
      lineHigh := false, receiver := .waitHigh, assembler := .awaitLead, gapCounting := false,
      rate := u.pendingRate.getD u.rate, pendingRate := none, counters := counters }
    (u.receiver = .watching ∨ u.lineHigh = true →
      (inProgress → exec (.panelBreak l) s = .next
        ((taken { u.counters with cut := min (u.counters.cut + 1) 255 }).raise .lineFault)) ∧
      (¬inProgress → exec (.panelBreak l) s = .next (taken u.counters))) ∧
    (u.receiver = .waitHigh → u.lineHigh = false → exec (.panelBreak l) s = .next s) ∧
    (u.gapCounting = true → inProgress → exec (.gap l) s = .next ((s.setPanel l { u with
      assembler := .outside, gapCounting := false,
      counters := { u.counters with gap := min (u.counters.gap + 1) 255 } }).raise .lineFault)) ∧
    (u.gapCounting = false ∨ ¬inProgress → exec (.gap l) s = .next s)

/-- R25, R26, R28, R30: what a character does in each state of the assembler, from its samples: each bit is the majority
of three, `v` is its eight data bits. The character that completes a frame is the row of that frame. That a character is
one row is the model's choice (log entry 3). -/
def Obligations.PanelCharacterTable : Prop :=
  ∀ (l : PanelLine) (s : State) (x y z : BitVec 11) (v : Byte), s.running = true →
    (s.panel l).receiver = .watching ∨ (s.panel l).lineHigh = true →
    let bit (k : Nat) := (x.getLsbD k && y.getLsbD k) || (x.getLsbD k && z.getLsbD k) || (y.getLsbD k && z.getLsbD k)
    (∀ k < 8, v.getLsbD k = bit (k + 1)) →
    let u := s.panel l
    let c := u.counters
    let after (a : Assembler) (counters : LineCounters) := s.setPanel l { u with
      lineHigh := true, receiver := .watching, assembler := a,
      gapCounting := decide (a ≠ .outside ∧ a ≠ .awaitLead), counters := counters }
    let failed (counters : LineCounters) := (after .outside counters).raise .lineFault
    let even := ((List.range 9).countP fun k => bit (k + 1)) % 2 = 0
    (bit 0 = true → exec (.panelCharacter l x y z) s = .next s) ∧
    (bit 0 = false → bit 10 = false → exec (.panelCharacter l x y z) s = .next
      (if u.assembler = .outside then after .outside c else failed { c with framing := min (c.framing + 1) 255 })) ∧
    (bit 0 = false → bit 10 = true → ¬even → exec (.panelCharacter l x y z) s = .next
      (if u.assembler = .outside then after .outside c else failed { c with parity := min (c.parity + 1) 255 })) ∧
    (bit 0 = false → bit 10 = true → even → exec (.panelCharacter l x y z) s =
      match u.assembler with
      | .outside => .next (after .outside c)
      | .awaitLead =>
        .next (if v = 195#8 then after .awaitKind c else failed { c with lead := min (c.lead + 1) 255 })
      | .awaitKind => .next (after (.awaitLength v v) c)
      | .awaitLength kind sum =>
        .next (if 16 < v.toNat then failed { c with length := min (c.length + 1) 255 }
          else if v.toNat = 0 then after (.awaitCheck kind [] (sum + v)) c
          else after (.payload kind v.toNat [] (sum + v)) c)
      | .payload kind length stored sum =>
        .next (if stored.length + 1 < length then after (.payload kind length (stored ++ [v]) (sum + v)) c
          else after (.awaitCheck kind (stored ++ [v]) (sum + v)) c)
      | .awaitCheck kind stored sum =>
        if sum + v = 0#8 then exec (Instr.ofFrame l kind stored) (after .outside c)
        else .next (failed { c with check := min (c.check + 1) 255 }))

/-- R32, R33, R70, R201: the checks of the request stage in their order: a slot that is not EMPTY drops the frame of any kind;
standby answers it or wakes the controller, where the head may start or a shortage is noted before the frame is handled; then
the kind and the payload length. That the wake posts the directive before the frame does is the model's choice (log entry
11), and so is that the followers take what they were handed before a start (log entry 10). -/
def Obligations.FrameChecksInOrder : Prop :=
  ∀ (l : PanelLine) (kind : Byte) (p : List Byte) (s : State), s.running = true →
    let u := s.panel l
    let no (code : Byte) := s.replied l ⟨0x81#8, [kind, code]⟩
    let woken := ((s.setDesk { s.desk with standby := false }).raise .woke).setFront
      { s.front with activity := .settling, settleTimer := some 20 }
    (u.slot ≠ .empty → exec (Instr.ofFrame l kind p) s = .next
      ((s.setPanel l { u with counters := { u.counters with drop := min (u.counters.drop + 1) 255 } }).raise
        .lineFault)) ∧
    (u.slot = .empty → s.desk.standby = true → s.desk.settings.wakeOnPanel = false →
      exec (Instr.ofFrame l kind p) s = .next (no 13#8)) ∧
    (u.slot = .empty → s.desk.standby = true → s.desk.settings.wakeOnPanel = true → ¬woken.ReadyButForCredits →
      exec (Instr.ofFrame l kind p) s = exec (Instr.ofFrame l kind p) woken) ∧
    (u.slot = .empty → s.desk.standby = true → s.desk.settings.wakeOnPanel = true → s.Posted →
      ∃ t, woken.Reexamined t ∧ exec (Instr.ofFrame l kind p) s = exec (Instr.ofFrame l kind p) t) ∧
    (u.slot = .empty → s.desk.standby = false → (kind.toNat < 0x10 ∨ 0x19 < kind.toNat) →
      exec (.panelUnknownKind l kind p) s = .next (no 11#8)) ∧
    (u.slot = .empty → s.desk.standby = false → 0x10 ≤ kind.toNat → kind.toNat ≤ 0x19 →
      [6, 1, 2, 1, 0, 0, 1, 1, 0, 1][kind.toNat - 0x10]? ≠ some p.length →
      exec (Instr.ofFrame l kind p) s = .next (no 10#8))

/-- R25, R26, R35, R36: the shift that completes passes a FULL slot on, at the rate now in use, or becomes IDLE; a line that
returns high lets its receiver watch again. That in reset its level alone is followed is the model's choice (log entry 7). -/
def Obligations.ShiftCompletionAndLineHigh : Prop :=
  ∀ (l : PanelLine) (s : State),
    let u := s.panel l
    (∀ sent r, s.running = true → u.shift = some sent → u.slot = .full r →
      exec (.shiftCompletion l) s = .next (s.setPanel l { u with slot := .empty, shift := some ⟨r, u.rate⟩ })) ∧
    (∀ sent, s.running = true → u.shift = some sent → u.slot = .empty ∨ u.slot = .reserved →
      exec (.shiftCompletion l) s = .next (s.setPanel l { u with shift := none })) ∧
    (s.running = true → exec (.lineReturnsHigh l) s =
      .next (s.setPanel l { u with lineHigh := true, receiver := .watching })) ∧
    (s.running = false → exec (.lineReturnsHigh l) s = .next (s.setPanel l { u with lineHigh := true }))

/-- R43: the 25 bytes of the NOW REPORT, in IDLE and with a current entry; nothing but the reply changes. The report names
the current entry by the stop id (log entry 14). -/
def Obligations.PeekNowReport : Prop :=
  ∀ (l : PanelLine) (s : State), s.Takes l →
    let score (g : MicGrade) : List Byte :=
      if g.parts = none ∨ g.weight = 0 then [255#8, 255#8]
      else [byteOf (10 * g.total / g.weight / 256), byteOf (10 * g.total / g.weight)]
    let room : List Byte :=
      [if s.room.unlimited then 1#8 else 0#8, byteOf (s.room.credits / 256), byteOf s.room.credits,
        if s.room.locked then 1#8 else 0#8, byteOf s.room.entries.length]
    (s.deck.state = .idle → exec (.peekNow l []) s = .next (s.replied l ⟨0x83#8,
      List.replicate 16 0#8 ++ List.replicate 4 255#8 ++ room⟩)) ∧
    (∀ e h, s.deck.state ≠ .idle → s.deck.current = some e → s.store.playing.header = some h →
      exec (.peekNow l []) s = .next (s.replied l ⟨0x83#8,
        [s.deck.state.code, byteOf s.deck.stopId, byteOf (e.song / 65536), byteOf (e.song / 256), byteOf e.song,
          byteOf e.singer, e.origin.code, if e.priority then 1#8 else 0#8, e.micMode.code, BitVec.ofInt 8 e.keyShift,
          byteOf (s.deck.playTime / 65536), byteOf (s.deck.playTime / 256), byteOf s.deck.playTime,
          byteOf (h.length / 65536), byteOf (h.length / 256), byteOf h.length] ++
          score s.grader.micA ++ score s.grader.micB ++ room⟩))

/-- R44, R170: a page of the history from index `j` (0 taken as 1), newest first: two summaries to a panel, four full records
to the desk; nothing but the reply changes. -/
def Obligations.HistoryPages : Prop :=
  ∀ (p : List Byte) (s : State), p.length = 1 →
    let first := if (byteAt p 0).toNat = 0 then 1 else (byteAt p 0).toNat
    let two (n : Nat) : List Byte := [byteOf (n / 256), byteOf n]
    let three (n : Nat) : List Byte := [byteOf (n / 65536), byteOf (n / 256), byteOf n]
    let opt (v : Option Nat) : List Byte := two (v.getD 65535)
    let counts (c : Option NoteCounts) : List Byte :=
      opt (c.map (·.judged)) ++ opt (c.map (·.sung)) ++ opt (c.map (·.onPitch))
    let summary (r : HistoryRecord) (i : Nat) : List Byte :=
      [byteOf i, byteOf r.id] ++ three r.song ++ [byteOf r.singer, r.origin.code, r.outcome.code] ++ opt r.entryScore ++
        [if r.invalid then 1#8 else 0#8] ++ two r.finish
    let record (r : HistoryRecord) (i : Nat) : List Byte :=
      [byteOf i, byteOf r.id] ++ three r.song ++
        [byteOf r.singer, r.origin.code, if r.priority then 1#8 else 0#8, r.micMode.code, BitVec.ofInt 8 r.keyShift,
          r.outcome.code] ++
        opt r.scoreA ++ opt r.scoreB ++ opt r.entryScore ++ [if r.invalid then 1#8 else 0#8] ++ counts r.countsA ++
        counts r.countsB ++ three r.duration ++ two r.finish
    let page (size : Nat) (bytes : HistoryRecord → Nat → List Byte) : List Byte :=
      let shown := (s.results.history.drop (first - 1)).take size
      byteOf s.results.history.length :: byteOf shown.length :: (shown.zipIdx first).flatMap fun x => bytes x.1 x.2
    (∀ l, s.Takes l → exec (.peekPast l p) s = .next (s.replied l ⟨0x84#8, page 2 summary⟩)) ∧
    (s.AtWrite → exec (.readHistory p) s = .next (s.recorded .ok 0x51#8 (page 4 record)))

/-! ## Chapter 3: song staging -/

/-- R49, R53, R54, R55: the checks of a STAGE OPEN in their order, the header an accepted one stores in a cleared bank, the
directive it posts, and the staging snapshot every stage record is answered with. -/
def Obligations.StageOpenStoresHeader : Prop :=
  ∀ (p : List Byte) (check : Byte) (s : State), s.AtCheck → SumsToZero 0x01#8 p check → p.length = 17 → s.StagingRule →
    s.Posted →
    let h : BankHeader :=
      { entryId := (byteAt p 0).toNat, song := fieldAt p 1 3, step := fieldAt p 4 2, lines := fieldAt p 6 2,
        syllables := fieldAt p 8 2, glyphs := fieldAt p 10 2, notes := fieldAt p 12 2, length := fieldAt p 14 3 }
    let two (n : Nat) : List Byte := [byteOf (n / 256), byteOf n]
    let snapshot (st : SongStore) : List Byte :=
      [st.state.code, byteOf (st.owner.getD 0)] ++ two st.staging.counts.lines ++ two st.staging.counts.syllables ++
        two st.staging.counts.glyphs ++ two st.staging.counts.notes
    let no (code : ResultCode) := s.answered code (snapshot s.store)
    let stale := s.store.state = .empty ∨ s.store.owner ≠ some h.entryId
    let tooLarge := 256 < h.lines ∨ 2048 < h.syllables ∨ 8192 < h.glyphs ∨ 1024 < h.notes
    let bad := h.step < 150 ∨ 2000 < h.step ∨ h.length = 0 ∨ 3599999 < h.length ∨ h.lines = 0 ∨ h.syllables = 0 ∨
      h.glyphs = 0 ∨ s.room.entries.head?.map (·.song) ≠ some h.song ∨
      h.syllables < h.lines ∨ 32 * h.lines < h.syllables ∨ h.glyphs < h.syllables ∨ 16 * h.syllables < h.glyphs
    (stale → exec (.stageOpen p check) s = .next (no .stale)) ∧
    (¬stale → tooLarge → exec (.stageOpen p check) s = .next (no .tooLarge)) ∧
    (¬stale → ¬tooLarge → bad → exec (.stageOpen p check) s = .next (no .badField)) ∧
    (¬stale → ¬tooLarge → ¬bad →
      let opened : SongStore :=
        { s.store.setStaging { header := some h, lyrics := [], notes := [], counts := ⟨0, 0, 0, 0⟩, marks := ⟨0, 0, 0, 0⟩ }
          with state := .loading }
      exec (.stageOpen p check) s = .next (((s.setStore opened).posting
        { s.port.directive with stageOrder := .load, stageId := h.entryId, stageSong := h.song }).answered .ok
          (snapshot opened)))

/-- R53, R56, R57, R58: the checks of a LINE record in their order, from the bytes of its payload, and what an accepted one
stores. -/
def Obligations.LineStoresRecord : Prop :=
  ∀ (id index start : Nat) (part : Byte) (override : Nat) (ys : List Syllable) (codes : List (BitVec 16)) (check : Byte)
    (s : State),
    let two (n : Nat) : List Byte := [byteOf (n / 256), byteOf n]
    let three (n : Nat) : List Byte := [byteOf (n / 65536), byteOf (n / 256), byteOf n]
    let p : List Byte := [byteOf id, byteOf index] ++ three start ++ [part] ++ two override ++ [byteOf ys.length] ++
      ys.flatMap (fun y => three y.offset ++ two y.duration ++ [byteOf y.glyphs]) ++ codes.flatMap (fun g => two g.toNat)
    id < 256 → index < 256 → start < 16777216 → override < 65536 → ys.length < 256 →
    (∀ y ∈ ys, y.offset < 16777216 ∧ y.duration < 65536 ∧ y.glyphs < 256) → codes.length = (ys.map (·.glyphs)).sum →
    p.length ≤ 1280 → s.AtCheck → SumsToZero 0x02#8 p check → s.StagingRule →
    let b := s.store.staging
    let c := b.counts
    let no (code : ResultCode) := s.answered code s.store.snapshot
    let stale := s.store.state = .empty ∨ s.store.owner ≠ some id
    let overlapping := ∃ k x y, ys[k]? = some x ∧ ys[k + 1]? = some y ∧ y.offset < x.offset + x.duration
    let finish := (ys.getLast?.map fun y => start + y.offset + y.duration).getD start
    (stale → exec (.line p check) s = .next (no .stale)) ∧
    (¬stale → s.store.state ≠ .loading → exec (.line p check) s = .next (no .notLoading)) ∧
    (¬stale → s.store.state = .loading → ∀ h, b.header = some h →
      let order := index ≠ c.lines ∨ start < b.marks.lastLineEnd ∨ overlapping
      let tooLarge := h.lines < c.lines + 1 ∨ h.syllables < c.syllables + ys.length ∨ h.glyphs < c.glyphs + codes.length
      let bad := (part.toNat < 1 ∨ 3 < part.toNat) ∨ (override ≠ 0 ∧ (override < 150 ∨ 2000 < override)) ∨
        (ys.length = 0 ∨ 32 < ys.length) ∨ (∃ y ∈ ys, y.duration < 1 ∨ 8000 < y.duration) ∨
        (∃ y ∈ ys, y.glyphs < 1 ∨ 16 < y.glyphs) ∨ h.length < finish
      (order → exec (.line p check) s = .next (no .order)) ∧
      (¬order → tooLarge → exec (.line p check) s = .next (no .tooLarge)) ∧
      (¬order → ¬tooLarge → bad → exec (.line p check) s = .next (no .badField)) ∧
      (¬order → ¬tooLarge → ¬bad → ∀ pt : Part, pt.code = part →
        let stored := s.store.setStaging { b with
          lyrics := b.lyrics ++ [⟨start, pt, if override = 0 then none else some override, ys, codes, finish⟩]
          counts := { c with
            lines := c.lines + 1, syllables := c.syllables + ys.length, glyphs := c.glyphs + codes.length }
          marks := { b.marks with lastLineEnd := finish } }
        exec (.line p check) s = .next ((s.setStore stored).answered .ok stored.snapshot)))

/-- R53, R59, R60: the checks of a NOTE record in their order, and what an accepted one stores. -/
def Obligations.NoteStoresRecord : Prop :=
  ∀ (p : List Byte) (check : Byte) (s : State), s.AtCheck → SumsToZero 0x03#8 p check → p.length = 11 → s.StagingRule →
    let id := (byteAt p 0).toNat
    let index := fieldAt p 1 2
    let start := fieldAt p 3 3
    let duration := fieldAt p 6 2
    let number := (byteAt p 8).toNat
    let part := (byteAt p 9).toNat
    let b := s.store.staging
    let no (code : ResultCode) := s.answered code s.store.snapshot
    let stale := s.store.state = .empty ∨ s.store.owner ≠ some id
    (stale → exec (.note p check) s = .next (no .stale)) ∧
    (¬stale → s.store.state ≠ .loading → exec (.note p check) s = .next (no .notLoading)) ∧
    (¬stale → s.store.state = .loading → ∀ h, b.header = some h →
      let order := index ≠ b.counts.notes ∨ start < b.marks.lastNoteStart ∨
        ((part = 1 ∨ part = 3) ∧ start < b.marks.part1Reach) ∨ ((part = 2 ∨ part = 3) ∧ start < b.marks.part2Reach)
      let bad := duration < 20 ∨ 8000 < duration ∨ number < 36 ∨ 84 < number ∨ part < 1 ∨ 3 < part ∨
        h.length < start + duration
      (order → exec (.note p check) s = .next (no .order)) ∧
      (¬order → h.notes ≤ b.counts.notes → exec (.note p check) s = .next (no .tooLarge)) ∧
      (¬order → b.counts.notes < h.notes → bad → exec (.note p check) s = .next (no .badField)) ∧
      (¬order → b.counts.notes < h.notes → ¬bad → ∀ pt : Part, pt.code = byteAt p 9 →
        let raised (reach : Nat) := if reach < start + duration then start + duration else reach
        let stored := s.store.setStaging { b with
          notes := b.notes ++ [⟨start, duration, number, pt, byteAt p 10 != 0#8⟩]
          counts := { b.counts with notes := b.counts.notes + 1 }
          marks := { b.marks with
            lastNoteStart := start
            part1Reach := if part = 2 then b.marks.part1Reach else raised b.marks.part1Reach
            part2Reach := if part = 1 then b.marks.part2Reach else raised b.marks.part2Reach } }
        exec (.note p check) s = .next ((s.setStore stored).answered .ok stored.snapshot)))

/-- R51, R53, R61, R70, R71: a STAGE CLOSE whose counts agree makes the bank READY, and the head starts when it may; one
whose counts differ clears the bank and answers with the counts as they stood. That the followers take what they were
handed before a start is the model's choice (log entry 10). -/
def Obligations.StageCloseComparesCounts : Prop :=
  ∀ (p : List Byte) (check : Byte) (s : State), s.AtCheck → SumsToZero 0x04#8 p check → p.length = 1 → s.StagingRule →
    s.Posted →
    let b := s.store.staging
    let stale := s.store.state = .empty ∨ s.store.owner ≠ some (byteAt p 0).toNat
    let ready := s.setStore { s.store with state := .ready }
    let told (t : State) := t.posting { t.port.directive with stageOrder := .none, stageId := 0, stageSong := 0 }
    (stale → exec (.stageClose p check) s = .next (s.answered .stale s.store.snapshot)) ∧
    (¬stale → s.store.state ≠ .loading →
      exec (.stageClose p check) s = .next (s.answered .notLoading s.store.snapshot)) ∧
    (¬stale → s.store.state = .loading → ∀ h, b.header = some h →
      let agree := b.counts = ⟨h.lines, h.syllables, h.glyphs, h.notes⟩
      (¬agree → exec (.stageClose p check) s = .next
        ((s.setStore { s.store.emptied with state := .requested }).answered .countMismatch s.store.snapshot)) ∧
      (agree → ¬ready.ReadyButForCredits → exec (.stageClose p check) s = .next
        ((told ready).answered .ok ready.store.snapshot)) ∧
      (agree → ready.ReadyButForCredits → s.room.credits = 0 → s.room.unlimited = false →
        exec (.stageClose p check) s = .next ((told ready.shorted).answered .ok ready.store.snapshot)) ∧
      (agree → ready.ReadyButForCredits → 1 ≤ s.room.credits ∨ s.room.unlimited = true →
        ∀ e rest, s.room.entries = e :: rest → exec (.stageClose p check) s = .next
          ((ready.begins e rest).answered .ok (ready.begins e rest).store.snapshot)))

/-- R14, R53, R62, R162, R163: a STAGE FAIL for the owner, the head, takes it out of the queue with a NO_STAGE record and asks
for the next head's song; for any other id it is STALE. -/
def Obligations.StageFailRemovesHead : Prop :=
  ∀ (p : List Byte) (check : Byte) (s : State), s.AtCheck → SumsToZero 0x05#8 p check → p.length = 2 → s.StagingRule →
    s.Posted → (s.room.entries.map (·.id)).Nodup →
    (s.store.state = .empty ∨ s.store.owner ≠ some (byteAt p 0).toNat →
      exec (.stageFail p check) s = .next (s.answered .stale s.store.snapshot)) ∧
    (∀ e rest, s.room.entries = e :: rest → e.id = (byteAt p 0).toNat →
      let finish := if s.results.counter < 65535 then s.results.counter + 1 else 65535
      let record : HistoryRecord :=
        { id := e.id, song := e.song, singer := e.singer, origin := e.origin, priority := e.priority, micMode := e.micMode,
          keyShift := e.keyShift, outcome := .noStage, scoreA := none, scoreB := none, entryScore := none,
          invalid := false, countsA := none, countsB := none, duration := 0, finish := finish }
      let removed := ((((s.setRoom { s.room with entries := rest }).setResults { s.results with
        history := (record :: s.results.history).take 16, counter := finish }).raise .songDone).raise .queueChanged).asks
          rest.head?
      exec (.stageFail p check) s = .next (removed.answered .ok removed.store.snapshot))

/-! ## Chapter 4: the deck and the play clock -/

/-- R75, R79: play time, and the checks of a time mark of either kind in their order; a refused mark changes only the answer,
which carries the deck snapshot. -/
def Obligations.TimeMarkRefusals : Prop :=
  (∀ d : Deck, d.playTime = if d.state ≠ .playing then d.floor
    else if 3599999 < max d.floor (d.lastMark + d.elapsed) then 3599999 else max d.floor (d.lastMark + d.elapsed)) ∧
  (∀ (c : Instr) (p : List Byte) (check : Byte) (s : State), c = .timeMarkRun p check ∨ c = .timeMarkEnd p check →
    s.AtCheck → SumsToZero 0x06#8 p check → p.length = 5 →
    let unmatched := s.deck.state = .idle ∨ (byteAt p 0).toNat ≠ s.deck.stopId
    let no (code : ResultCode) := s.answered code
      [s.deck.state.code, byteOf s.deck.stopId, byteOf (s.deck.playTime / 65536), byteOf (s.deck.playTime / 256),
        byteOf s.deck.playTime]
    (unmatched → exec c s = .next (no .stale)) ∧
    (¬unmatched → 3599999 < fieldAt p 1 3 ∨ (byteAt p 4 ≠ 1#8 ∧ byteAt p 4 ≠ 2#8) → exec c s = .next (no .badField)))

/-- R19, R72, R76, R77, R78, R79, R83, R91: a RUN mark at media time `m` for the stop id in each deck state. That a rewind
hands its REWIND and leaves the invalid flag to be set when the grader takes it is the model's choice (log entry 8). -/
def Obligations.RunMarkInEachState : Prop :=
  ∀ (p : List Byte) (check : Byte) (s : State), s.AtCheck → SumsToZero 0x06#8 p check → p.length = 5 →
    byteAt p 4 = 1#8 → (byteAt p 0).toNat = s.deck.stopId → s.deck.floor ≤ 3599999 →
    let m := fieldAt p 1 3
    let now := s.deck.playTime
    let answer (t : State) (state : Byte) (time : Nat) := t.answered .ok
      [state, byteOf s.deck.stopId, byteOf (time / 65536), byteOf (time / 256), byteOf time]
    let playing (floor : Nat) (reached : Bool) : Deck := { s.deck with
      state := .playing, reached := reached, floor := floor, lastMark := m, elapsed := 0, startTimer := none,
      stallTimer := some 500, stallLimit := none, stopTimer := none }
    m ≤ 3599999 →
    (s.deck.state = .starting → exec (.timeMarkRun p check) s = .next (answer
      (((s.setDeck (playing m true)).setRoom { s.room with
        credits := if s.room.unlimited = false ∧ 1 ≤ s.room.credits then s.room.credits - 1 else s.room.credits }).handed
          ⟨if 1000 < m then .jump else .step, m⟩) 2#8 m)) ∧
    (s.deck.state = .playing ∨ s.deck.state = .stalled →
      let marked (kind : AdvanceKind) (time : Nat) :=
        answer ((s.setDeck (playing time s.deck.reached)).handed ⟨kind, time⟩) 2#8 time
      exec (.timeMarkRun p check) s = .next (
        if now ≤ m then marked (if 1000 < m - now then .jump else .step) m
        else if now - m ≤ 250 then marked .step now
        else marked .rewind m)) ∧
    (s.deck.state = .paused →
      exec (.timeMarkRun p check) s = .next (answer (s.setDeck { s.deck with lastMark := m }) 3#8 s.deck.floor)) ∧
    (s.deck.state = .stopping →
      exec (.timeMarkRun p check) s = .next (s.answered (if s.deck.reached then .ok else .stale)
        [5#8, byteOf s.deck.stopId, byteOf (now / 65536), byteOf (now / 256), byteOf now]))

/-- R74, R76, R86, R89, R90, R91, R163 to R166: an END mark at media time `m` for the stop id in each deck state: the song
is recorded, the deck returns to IDLE, and the next head may start. That the followers take what they were handed before a
start is the model's choice (log entry 10). -/
def Obligations.EndMarkInEachState : Prop :=
  ∀ (p : List Byte) (check : Byte) (s : State), s.AtCheck → SumsToZero 0x06#8 p check → p.length = 5 →
    byteAt p 4 = 2#8 → (byteAt p 0).toNat = s.deck.stopId → s.deck.floor ≤ 3599999 → fieldAt p 1 3 ≤ 3599999 →
    s.Posted → s.results.Rule → s.deck.stopId ∉ s.room.entries.map (·.id) →
    let m := fieldAt p 1 3
    let now := s.deck.playTime
    let Answers (t : State) : Prop := exec (.timeMarkEnd p check) s = .next (t.answered .ok
      [t.deck.state.code, byteOf t.deck.stopId, byteOf (t.deck.playTime / 65536), byteOf (t.deck.playTime / 256),
        byteOf t.deck.playTime])
    (s.deck.state = .stopping → ∃ t, Answers t ∧ s.Idled t) ∧
    (∀ e, s.deck.current = some e →
      (s.deck.state = .starting → s.deck.reached = false → s.grader.mode = .following → s.grader.inbox = [] → ∃ t,
        Answers t ∧
        State.Idled ((s.setGrader { s.grader with mode := .final, report := none }).archived
          (e.record .noStart none 0 s.nextFinish)) t) ∧
      (s.deck.state = .playing ∨ s.deck.state = .stalled ∨ s.deck.state = .paused → s.deck.reached = true →
        let final := if s.deck.state = .paused then now else if now ≤ m then m else if now - m ≤ 250 then now else m
        let kind : AdvanceKind := if now ≤ m then (if 1000 < m - now then .jump else .step)
          else if now - m ≤ 250 then .step else .rewind
        let marked := if s.deck.state = .paused then s else s.handed ⟨kind, final⟩
        let notes := s.store.playing.notes
        let graded := (marked.grader.takeAll notes e.keyShift).finalScores notes e.keyShift final
        ∃ u t, Answers t ∧ State.Idled u t ∧
          State.Archives (marked.setGrader graded) (e.record .completed graded.report final s.nextFinish) u))

/-- R76, R78, R82, R84: HOLD freezes play time in PLAYING and STALLED, and GO resumes it in PAUSED, from the last mark where the
floor is more than 250 ms ahead of it; elsewhere they are refused. That a GO that rewinds leaves the invalid flag to be set when
the grader takes the REWIND is the model's choice (log entry 8). -/
def Obligations.HoldAndGo : Prop :=
  ∀ (l : PanelLine) (s : State), s.Takes l → s.Posted →
    let d := s.deck
    let floor := if 250 < d.floor - d.lastMark then d.lastMark else max d.floor d.lastMark
    let kind : AdvanceKind :=
      if 250 < d.floor - d.lastMark then .rewind else if 1000 < floor - d.floor then .jump else .step
    (d.state = .playing ∨ d.state = .stalled →
      exec (.hold l []) s = .next (((s.setDeck { d with
        state := .paused, floor := d.playTime, startTimer := none, stallTimer := none, stallLimit := none,
        stopTimer := none }).setPort (s.port.ordered .pause)).replied l ⟨0x80#8, [0x14#8]⟩)) ∧
    (d.state ≠ .playing → d.state ≠ .stalled →
      exec (.hold l []) s = .next (s.replied l ⟨0x81#8, [0x14#8, 6#8]⟩)) ∧
    (d.state = .paused → d.floor ≤ 3599999 → d.lastMark ≤ 3599999 →
      exec (.go l []) s = .next ((((s.setDeck { d with
        state := .playing, floor := floor, elapsed := 0, startTimer := none, stallTimer := some 500, stallLimit := none,
        stopTimer := none }).handed ⟨kind, floor⟩).setPort (s.port.ordered .play)).replied l ⟨0x80#8, [0x15#8]⟩)) ∧
    (d.state ≠ .paused → exec (.go l []) s = .next (s.replied l ⟨0x81#8, [0x15#8, 7#8]⟩))

/-- R41, R69, R85: a KEY request in PLAYING, PAUSED and STALLED moves the current entry's key shift by the clamped delta; the
directive follows, and changes only where the key shift does. -/
def Obligations.KeyChange : Prop :=
  ∀ (l : PanelLine) (p : List Byte) (s : State), s.Takes l → p.length = 1 → s.Posted →
    (s.deck.state = .playing ∨ s.deck.state = .paused ∨ s.deck.state = .stalled → ∀ e, s.deck.current = some e →
      let delta : Int := if (byteAt p 0).toInt < -12 then -12 else if 12 < (byteAt p 0).toInt then 12 else (byteAt p 0).toInt
      let key : Int := if e.keyShift + delta < -6 then -6 else if 6 < e.keyShift + delta then 6 else e.keyShift + delta
      exec (.key l p) s = .next (((s.setDeck { s.deck with current := some { e with keyShift := key } }).posting
        { s.port.directive with keyShift := key }).replied l ⟨0x80#8, [0x16#8, BitVec.ofInt 8 key]⟩)) ∧
    (s.deck.state = .idle ∨ s.deck.state = .starting ∨ s.deck.state = .stopping →
      exec (.key l p) s = .next (s.replied l ⟨0x81#8, [0x16#8, 6#8]⟩))

/-- R87, R88, R89, R162: the checks of SKIP NOW and of STOP SONG in their order, and what an accepted one does: the song is
recorded with its outcome, and the deck is STOPPING. -/
def Obligations.SkipAndStopSong : Prop :=
  ∀ (l : PanelLine) (p : List Byte) (s : State), p.length = 1 →
    let no (code : Byte) := s.replied l ⟨0x81#8, [0x13#8, code]⟩
    let ended := s.deck.state = .idle ∨ s.deck.state = .stopping
    let other := s.deck.current.map (·.id) ≠ some (byteAt p 0).toNat
    (s.Takes l →
      (s.desk.settings.skipAllowed = false → exec (.skipNow l p) s = .next (no 8#8)) ∧
      (s.desk.settings.skipAllowed = true → ended → exec (.skipNow l p) s = .next (no 6#8)) ∧
      (s.desk.settings.skipAllowed = true → ¬ended → other → exec (.skipNow l p) s = .next (no 9#8))) ∧
    (s.AtWrite → ended → exec (.stopSong []) s = .next (s.recorded .notPlaying 0x4F#8 [])) ∧
    (¬ended → s.Posted → ∀ e, s.deck.current = some e →
      let Ends (t : SongOutcome → State) : Prop :=
        (s.Takes l → s.desk.settings.skipAllowed = true → ¬other →
          exec (.skipNow l p) s = .next ((t .skipped).replied l ⟨0x80#8, [0x13#8]⟩)) ∧
        (s.AtWrite → exec (.stopSong []) s = .next ((t .stopped).recorded .ok 0x4F#8 []))
      let notes := s.store.playing.notes
      let now := s.deck.playTime
      let graded := (s.grader.takeAll notes e.keyShift).finalScores notes e.keyShift now
      (s.deck.state = .starting → s.deck.reached = false → s.deck.floor = 0 → s.grader.mode = .following →
        s.grader.inbox = [] → Ends fun outcome =>
          ((s.stopping e 0).setGrader { s.grader with mode := .final, report := none }).archived
            (e.record outcome none 0 s.nextFinish)) ∧
      (s.deck.state ≠ .starting → s.deck.reached = true → Ends fun outcome =>
        ((s.stopping e now).setGrader graded).archived (e.record outcome graded.report now s.nextFinish)))

/-- R73, R81, R89, R91: the expiry of the start timer, the stall-limit timer and the stop timer, each in its own deck
state; in any other condition the row changes nothing. That the rows wait for a timer at 0 and otherwise change nothing is
the model's choice (log entries 5 and 7), and so is that, where the return to IDLE starts the head, the followers take what
they were handed before the banks change places (log entry 10). -/
def Obligations.DeckTimerExpiries : Prop :=
  ∀ s : State, s.running = true →
    let notes := s.store.playing.notes
    (s.deck.state = .starting → s.deck.startTimer = some 0 → s.Posted → s.deck.reached = false → s.deck.floor = 0 →
      s.grader.mode = .following → s.grader.inbox = [] → ∀ e, s.deck.current = some e →
      exec .startTimerExpiry s = .next (((s.stopping e 0).setGrader { s.grader with mode := .final, report := none }).archived
        (e.record .noStart none 0 s.nextFinish))) ∧
    (s.deck.state = .stalled → s.deck.stallLimit = some 0 → s.Posted → s.deck.reached = true →
      ∀ e, s.deck.current = some e →
      let graded := (s.grader.takeAll notes e.keyShift).finalScores notes e.keyShift s.deck.floor
      exec .stallLimitExpiry s = .next ((((s.stopping e s.deck.floor).setGrader graded).archived
        (e.record .mediaLost graded.report s.deck.floor s.nextFinish)).raise .mediaLost)) ∧
    (s.deck.state = .stopping → s.deck.stopTimer = some 0 → s.Posted →
      ∃ t, exec .stopTimerExpiry s = .next t ∧ s.Idled t) ∧
    (s.deck.state ≠ .starting ∨ s.deck.startTimer ≠ some 0 → exec .startTimerExpiry s = .next s) ∧
    (s.deck.state ≠ .stalled ∨ s.deck.stallLimit ≠ some 0 → exec .stallLimitExpiry s = .next s) ∧
    (s.deck.state ≠ .stopping ∨ s.deck.stopTimer ≠ some 0 → exec .stopTimerExpiry s = .next s)

/-- R76, R80, R123, R136, R191: a millisecond tick counts every armed timer and, every second one, begins a scan; in
PLAYING it counts E and hands a STEP, and the tick that brings E to 500 is the stall timer's expiry. That the stall
timer's expiry is that tick, and that the row changes nothing elsewhere, is the model's choice (log entries 6 and 7); so are
that a timer counts to 0 and waits there (log entry 5), that the bus timeout is counted tick by tick and its expiry left to
its own row (log entry 16), and that a scan due over a conversion in flight begins again at microphone A (log entry 17). -/
def Obligations.TickCountsAndStalls : Prop :=
  ∀ s : State, s.running = true → s.deck.Rule →
    let d := s.deck
    let front := match s.front.activity with
      | .on => if s.front.scanTicks ≤ 1 then { s.front with conversion := some .a, scanTicks := 2 }
        else { s.front with scanTicks := s.front.scanTicks - 1 }
      | .settling => { s.front with settleTimer := s.front.settleTimer.map (· - 1) }
      | .off => s.front
    let counted := (s.setFront front).setDesk
      (if s.desk.bus = .idle then s.desk else { s.desk with busTimer := s.desk.busTimer.map (· - 1) })
    let now := min (max d.floor (d.lastMark + (d.elapsed + 1))) 3599999
    (d.state ≠ .playing → exec .millisecondTick s = .next (counted.setDeck { d with
      startTimer := d.startTimer.map (· - 1), stallLimit := d.stallLimit.map (· - 1),
      stopTimer := d.stopTimer.map (· - 1) })) ∧
    (d.state = .playing → d.elapsed < 499 → exec .millisecondTick s = .next
      ((counted.setDeck { d with elapsed := d.elapsed + 1, stallTimer := some (499 - d.elapsed) }).handed ⟨.step, now⟩)) ∧
    (d.state = .playing → d.elapsed = 499 →
      let stalled := (((counted.setDeck { d with
        state := .stalled, floor := now, elapsed := 500, stallTimer := none, stallLimit := some 8000 }).handed
          ⟨.step, now⟩).raise .stall)
      exec .millisecondTick s = .next stalled ∧ exec .stallTimerExpiry s = .next stalled) ∧
    (d.state ≠ .playing ∨ d.elapsed ≠ 499 → exec .stallTimerExpiry s = .next s)

/-! ## Chapter 5: the lyric window -/

/-- R97 to R102, R110: a STEP ends the scroll and the countdown that are over, moves the window until no entry and no exit
applies, and makes the countdown search; any other waiting advance is left. That a row takes the waiting advance of its
kind and is nothing otherwise is the model's choice (log entries 7 and 8). -/
def Obligations.LyricStepFollowsPlayTime : Prop :=
  ∀ s : State, s.running = true →
    (∀ t rest, s.lyric.inbox = ⟨.step, t⟩ :: rest → ∃ q, exec .lyricStep s = .next (s.setLyric q) ∧
      Sequencer.Stepped s.store.playing t { s.lyric with inbox := rest } q) ∧
    ((∀ t rest, s.lyric.inbox ≠ ⟨.step, t⟩ :: rest) → exec .lyricStep s = .next s)

/-- R105, R106, R112: a JUMP or a REWIND makes the window afresh from the first line that would still be held, with no
scroll and no exit, and the countdown search starts at the first line not yet begun. That a row takes the waiting advance
of its kind and is nothing otherwise is the model's choice (log entries 7 and 8). -/
def Obligations.LyricRebuildMakesWindowAfresh : Prop :=
  ∀ s : State, s.running = true →
    (∀ kind t rest, s.lyric.inbox = ⟨kind, t⟩ :: rest → kind ≠ .step →
      let b := s.store.playing
      let c := s.lyric.settings
      let first := b.lyrics.findIdx fun l => decide (t < l.endTime + c.hold)
      ∃ n searched, exec .lyricRebuild s = .next (s.setLyric searched) ∧ n ≤ c.rows ∧
        (∀ i < n, ∃ l, b.lyrics[first + i]? = some l ∧ l.start ≤ t + c.lead) ∧
        (n = c.rows ∨ ∀ l, b.lyrics[first + n]? = some l → t + c.lead < l.start) ∧
        Sequencer.Searched b t { s.lyric with
          inbox := rest, window := List.range' first n, cursor := first + n, scroll := none, countdown := none,
          search := b.lyrics.findIdx fun l => decide (t < l.start) } searched) ∧
    (s.lyric.inbox = [] ∨ (∃ t rest, s.lyric.inbox = ⟨.step, t⟩ :: rest) → exec .lyricRebuild s = .next s)

/-- R95, R96, R115: a new song copies the configured settings and begins with an empty window; a dropped song leaves the
cursor, the search index, the settings and the forced-exit count. Waiting advances are taken first (R76). That the rows
are these operations given by themselves is the model's choice (log entry 8). -/
def Obligations.LyricNewSongAndDropSong : Prop :=
  ∀ s : State, s.running = true →
    let caught := s.lyric.takeAll s.store.playing
    exec .lyricNewSong s = .next (s.setLyric { caught with
      window := [], cursor := 0, search := 0, scroll := none, countdown := none, settings := s.desk.settings.lyric }) ∧
    exec .lyricDropSong s = .next (s.setLyric { caught with window := [], scroll := none, countdown := none })

/-- R107, R108: the state of a line and its wipe at play time `t`, from the last syllable begun; the wipe never runs back while
play time does not. -/
def Obligations.LineStateAndWipe : Prop :=
  ∀ (l : LyricLine) (x last : Syllable) (t : Nat), l.syllables.head? = some x → l.syllables.getLast? = some last →
    (∀ k y z, l.syllables[k]? = some y → l.syllables[k + 1]? = some z → y.offset + y.duration ≤ z.offset) →
    (∀ y ∈ l.syllables, 1 ≤ y.duration) → l.endTime = l.start + last.offset + last.duration →
    let glyphs (k : Nat) : Nat := ((l.syllables.take k).map (·.glyphs)).sum
    let n := l.syllables.length
    (t < l.start + x.offset → l.stateAt t = .upcoming ∧ l.wipeAt t = 0) ∧
    (l.endTime ≤ t → l.stateAt t = .sung ∧ l.wipeAt t = 16 * glyphs n) ∧
    (l.start + x.offset ≤ t → t < l.endTime → l.stateAt t = .singing ∧
      ∀ k y, l.syllables[k]? = some y → l.start + y.offset ≤ t →
        (∀ z, l.syllables[k + 1]? = some z → t < l.start + z.offset) →
        l.wipeAt t =
          if t < l.start + y.offset + y.duration then
            16 * glyphs k + 16 * y.glyphs * (t - l.start - y.offset) / y.duration
          else 16 * glyphs (k + 1)) ∧
    (∀ u, t ≤ u → l.wipeAt t ≤ l.wipeAt u)

/-! ## Chapter 6: the microphone front end -/

/-- R123 to R126, R136: a conversion's value goes to the gate whose conversion is in flight, under the thresholds as they
stand, and B's conversion follows A's; the settle timer's expiry turns activity ON and begins a scan. That the rows change
nothing in any other condition is the model's choice (log entry 7). -/
def Obligations.GatesAndScans : Prop :=
  ∀ (value : BitVec 10) (s : State), s.running = true →
    let v := value.toNat
    let openAt := s.desk.settings.openThreshold
    let closeBelow := s.desk.settings.closeThreshold
    let Gate (m r : MicState) : Prop :=
      (m.gateOpen = false → v < openAt → r = { m with openRun := 0 }) ∧
      (m.gateOpen = false → openAt ≤ v → m.openRun < 2 → r = { m with openRun := m.openRun + 1 }) ∧
      (m.gateOpen = false → openAt ≤ v → 2 ≤ m.openRun →
        r = { m with gateOpen := true, openRun := 0, closeRun := 0 }) ∧
      (m.gateOpen = true → closeBelow ≤ v → r = { m with closeRun := 0 }) ∧
      (m.gateOpen = true → v < closeBelow → m.closeRun < 4 → r = { m with closeRun := m.closeRun + 1 }) ∧
      (m.gateOpen = true → v < closeBelow → 4 ≤ m.closeRun → r = ⟨false, 0, 0, false, 0, none⟩)
    (s.front.conversion = some .a → ∃ r, Gate s.front.micA r ∧
      exec (.conversionCompletion value) s = .next (s.setFront { s.front with micA := r, conversion := some .b })) ∧
    (s.front.conversion = some .b → ∃ r, Gate s.front.micB r ∧
      exec (.conversionCompletion value) s = .next (s.setFront { s.front with micB := r, conversion := none })) ∧
    (s.front.conversion = none → exec (.conversionCompletion value) s = .next s) ∧
    (s.front.activity = .settling → s.front.settleTimer = some 0 → exec .settleTimerExpiry s = .next
      (s.setFront { s.front with activity := .on, settleTimer := none, conversion := some .a, scanTicks := 2 })) ∧
    (s.front.activity ≠ .settling ∨ s.front.settleTimer ≠ some 0 → exec .settleTimerExpiry s = .next s)

/-- R129, R130, R131, R133, R134: a rising edge `counts` capture clocks after the one before, with no reference, inside
the guard, at a closed gate, and with an interval; an accepted interval is a sample of the microphones the mic mode
scores. That the row carries the capture clocks since the microphone's edge event before it is the model's choice (log
entry 9). -/
def Obligations.EdgesAndIntervals : Prop :=
  ∀ (m : Mic) (counts : Nat) (s : State), s.running = true →
    let u := s.front.mic m
    let stamp := min (u.counter + counts) 65535
    let after (v : MicState) := s.setFront (s.front.setMic m v)
    let Gives (t : State) : Prop := exec (.zeroCrossEdge m counts) s = .next t
    (s.front.activity ≠ .on → Gives s) ∧
    (s.front.activity = .on → u.lastEdge = false → Gives (after { u with lastEdge := true, counter := 0 })) ∧
    (s.front.activity = .on → u.lastEdge = true → stamp < 400 → Gives (after { u with counter := stamp })) ∧
    (s.front.activity = .on → u.lastEdge = true → 400 ≤ stamp → u.gateOpen = false →
      Gives (after { u with counter := 0 })) ∧
    (s.front.activity = .on → u.lastEdge = true → 400 ≤ stamp → u.gateOpen = true → stamp < 800 ∨ 16000 < stamp →
      Gives (after { u with counter := 0, previous := none })) ∧
    (s.front.activity = .on → u.lastEdge = true → u.gateOpen = true → 800 ≤ stamp → stamp ≤ 16000 →
      let stamped := after { u with counter := 0, previous := some stamp }
      let accepted := ∃ q, u.previous = some q ∧ (stamp - q) * 16 ≤ q ∧ (q - stamp) * 16 ≤ q
      let handedOn := s.deck.state = .playing ∧ ∃ e, s.deck.current = some e ∧
        ((m = .a ∧ e.micMode ≠ .soloB) ∨ (m = .b ∧ e.micMode ≠ .soloA))
      (accepted ∧ handedOn → Gives (stamped.setGrader (s.grader.takeSample m stamp))) ∧
      (¬(accepted ∧ handedOn) → Gives stamped))

/-! ## Chapter 7: pitch grading -/

/-- R138: every entry of the period table is 1,000,000 / f(n) rounded, with f(n) = 440 × 2^((n − 69) / 12), both sides of the
rounding taken to the twelfth power. -/
def Obligations.PeriodTableIsRounded : Prop :=
  ∀ n, 24 ≤ n → n ≤ 108 →
    (2 * periodOf n - 1) ^ 12 * 440 ^ 12 * 2 ^ n ≤ (2 * 1000000) ^ 12 * 2 ^ 69 ∧
    (2 * 1000000) ^ 12 * 2 ^ 69 < (2 * periodOf n + 1) ^ 12 * 440 ^ 12 * 2 ^ n

/-- R142 to R144, R147, R148, R155: the oldest waiting advance at the grader. A STEP or a JUMP closes and opens notes
until neither applies; a REWIND sets the invalid flag and judges the open notes as closed at their ends. That a row takes
the waiting advance of its kind and is nothing otherwise is the model's choice (log entries 7 and 8). -/
def Obligations.GraderTakesAdvances : Prop :=
  ∀ s : State, s.running = true →
    let g := s.grader
    let rewound (u : MicGrade) : MicGrade :=
      match u.openNote with
      | none => u
      | some o => u.judgedWith o (MicGrade.weighed o o.duration)
    (∀ kind t rest, g.inbox = ⟨kind, t⟩ :: rest → kind ≠ .rewind →
      (g.mode = .following → ∃ a b,
        exec .graderStep s = .next (s.setGrader { g with inbox := rest, micA := a, micB := b }) ∧
        MicGrade.Followed s.store.playing.notes s.deck.key t g.micA a ∧
        MicGrade.Followed s.store.playing.notes s.deck.key t g.micB b) ∧
      (g.mode ≠ .following → exec .graderStep s = .next (s.setGrader { g with inbox := rest }))) ∧
    (∀ t rest, g.inbox = ⟨.rewind, t⟩ :: rest →
      (g.mode = .following → exec .graderRewind s = .next
        (s.setGrader { g with inbox := rest, invalid := true, micA := rewound g.micA, micB := rewound g.micB })) ∧
      (g.mode ≠ .following → exec .graderRewind s = .next (s.setGrader { g with inbox := rest }))) ∧
    (g.inbox = [] ∨ (∃ t rest, g.inbox = ⟨.rewind, t⟩ :: rest) → exec .graderStep s = .next s) ∧
    (g.inbox = [] ∨ (∃ kind t rest, g.inbox = ⟨kind, t⟩ :: rest ∧ kind ≠ .rewind) → exec .graderRewind s = .next s)

/-- R76, R89, R140, R150 to R153, R158: the requests the deck makes of the grader, with the advances handed before taken
first: a new song, the final scores and the report they give, a song ended without scores, and a discard. That the rows
are these operations given by themselves is the model's choice (log entry 8). -/
def Obligations.GraderSongRequests : Prop :=
  ∀ s : State, s.running = true →
    let notes := s.store.playing.notes
    let caught := s.grader.takeAll notes s.deck.key
    let score (g : MicGrade) : Option Nat := if g.parts = none ∨ g.weight = 0 then none else some (10 * g.total / g.weight)
    let counts (g : MicGrade) : Option NoteCounts := if g.parts = none then none else some ⟨g.judged, g.sung, g.onPitch⟩
    (∀ e, s.deck.current = some e → exec .graderNewSong s = .next (s.setGrader
      { mode := .following, invalid := false, report := none, inbox := [],
        micA := micBegins notes (if e.micMode = .soloB then none else some .part1),
        micB := micBegins notes (if e.micMode = .soloA then none
          else if e.micMode = .soloB then some .part1 else some .part2) })) ∧
    (s.grader.mode = .following → ∃ a b, MicGrade.Followed notes s.deck.key s.deck.playTime caught.micA a ∧
      MicGrade.Followed notes s.deck.key s.deck.playTime caught.micB b ∧
      let doneA := a.finishedAt s.deck.playTime
      let doneB := b.finishedAt s.deck.playTime
      exec .graderFinalScores s = .next (s.setGrader { caught with
        mode := .final, micA := doneA, micB := doneB,
        report := some
          { scoreA := score doneA, scoreB := score doneB, countsA := counts doneA, countsB := counts doneB,
            invalid := caught.invalid,
            entryScore := match score doneA, score doneB with
              | some x, some y => some ((x + y) / 2)
              | some x, none => some x
              | none, y => y } })) ∧
    (s.grader.mode = .following →
      exec .graderSongEnded s = .next (s.setGrader { caught with mode := .final, report := none })) ∧
    exec .graderDiscard s = .next (s.setGrader
      { mode := .noSong, invalid := false, report := none, inbox := [],
        micA := ⟨none, 0, none, ⟨.none, .centre⟩, 0, 0, 0, 0, 0⟩,
        micB := ⟨none, 0, none, ⟨.none, .centre⟩, 0, 0, 0, 0, 0⟩ })

/-- R145, R146: a sample taken in FOLLOWING with a note open is moved by octaves towards the target period, doubled while
below the lower bound, then halved while at or above the upper one; its ratio gives the grade, the lean and the tally. -/
def Obligations.SamplesAreFoldedAndGraded : Prop :=
  ∀ (m : Mic) (p : Nat) (g : Grader), g.mode = .following → 800 ≤ p → p ≤ 16000 →
    let u := match m with | .a => g.micA | .b => g.micB
    let after (r : MicGrade) : Grader := match m with | .a => { g with micA := r } | .b => { g with micB := r }
    (u.openNote = none → g.takeSample m p = after { u with live := ⟨.none, .centre⟩ }) ∧
    (∀ o, u.openNote = some o → 676 ≤ o.period → o.period ≤ 21622 → ∃ j k,
      let T := o.period
      let raised := p * 2 ^ j
      let folded := raised / 2 ^ k
      let r := 4096 * folded / T
      (∀ i < j, 4096 * (p * 2 ^ i) < 2896 * T) ∧ 2896 * T ≤ 4096 * raised ∧
      (∀ i < k, 5793 * T ≤ 4096 * (raised / 2 ^ i)) ∧ 4096 * folded < 5793 * T ∧
      g.takeSample m p = after (
        if 4038 ≤ r ∧ r ≤ 4155 then { u with
          openNote := some { o with exact := if o.exact < 65535 then o.exact + 1 else 65535 }, live := ⟨.exact, .centre⟩ }
        else if 3980 ≤ r ∧ r ≤ 4215 then { u with
          openNote := some { o with close := if o.close < 65535 then o.close + 1 else 65535 },
          live := ⟨.close, if r < 4096 then .sharp else .flat⟩ }
        else { u with
          openNote := some { o with miss := if o.miss < 65535 then o.miss + 1 else 65535 },
          live := ⟨.miss, if r < 4096 then .sharp else .flat⟩ }))

/-! ## Chapter 9: the media port -/

/-- R173 to R176, R178, R179: the fall of MSN makes the change count ready and a command is awaited, and its rise ends the
transaction; what MDO carries by its place, in each port state; then the port's checks in their order, each with the answer it
gives and no other effect. That a level given again changes nothing is the model's choice (log entry 7), and so are that a port
in WAIT_HIGH takes a fall of MSN that was high (log entry 1), that the first byte is absent while MDO is released (log entry
17), and that a LINE whose fields alone imply more than 1280 bytes is BAD_FIELD (log entry 18). -/
def Obligations.SelectAndPortChecksInOrder : Prop :=
  ∀ (kind : Byte) (p : List Byte) (check : Byte) (s : State), s.running = true →
    let c := Instr.ofCommand kind p check
    let known := 1 ≤ kind.toNat ∧ kind.toNat ≤ 10
    let syllables := (byteAt p 8).toNat
    let glyphs := ((List.range syllables).map fun k => (byteAt p (9 + 6 * k + 5)).toNat).sum
    let wrongLength :=
      if kind = 0x02#8 then p.length < 9 ∨ p.length < 9 + 6 * syllables ∨ p.length ≠ 9 + 6 * syllables + 2 * glyphs
      else [17, 0, 11, 1, 2, 5, 0, 1, 0, 0][kind.toNat - 1]? ≠ some p.length
    let m := s.port
    let body := m.lastAnswer.code.code :: byteOf (m.lastAnswer.payload.length / 256) ::
      byteOf m.lastAnswer.payload.length :: m.lastAnswer.payload
    (m.selectHigh = true → s.mdo = none ∧ exec .msnRise s = .next s ∧ exec .msnFall s = .next (s.setPort { m with
      selectHigh := false, state := .command, firstByte := some (byteOf m.changeCount), place := 0 })) ∧
    (m.selectHigh = false → exec .msnFall s = .next s ∧ exec .msnRise s = .next (s.setPort { m with
      selectHigh := true, state := .unselected, firstByte := none, place := 0 })) ∧
    (m.selectHigh = false → m.state = .waitHigh ∨ m.state = .unselected → s.mdo = none) ∧
    (m.selectHigh = false → m.state = .command → m.place = 0 → s.mdo = m.firstByte) ∧
    (m.selectHigh = false → m.state = .command → m.place ≠ 0 → s.mdo = some 0#8) ∧
    (m.selectHigh = false → m.state = .answer → ∃ last : Byte, ((body.map BitVec.toNat).sum + last.toNat) % 256 = 0 ∧
      s.mdo = (body ++ [last])[m.place]?) ∧
    (m.selectHigh = false → m.state = .trailing → s.mdo = some 0#8) ∧
    (s.port.state ≠ .command → exec c s = .next s) ∧
    (s.port.state = .command → 1280 < p.length → exec c s = .next (s.answered .tooLarge [])) ∧
    (s.port.state = .command → p.length ≤ 1280 → ¬SumsToZero kind p check →
      exec c s = .next (s.answered .badField [])) ∧
    (s.port.state = .command → p.length ≤ 1280 → SumsToZero kind p check → ¬known →
      exec (.mediaUnknownKind kind p check) s = .next (s.answered .badKind [])) ∧
    (s.port.state = .command → p.length ≤ 1280 → SumsToZero kind p check → known → wrongLength →
      exec c s = .next (s.answered .badField []))

/-- R179, R181, R182: READ DIRECTIVE gives every field of the record, ACK DIRECTIVE of the present count releases MATN and of
any other is STALE, and REPEAT ANSWER gives the last answer again and leaves it. -/
def Obligations.DirectiveReadAckAndRepeat : Prop :=
  ∀ (p : List Byte) (check : Byte) (s : State), s.AtCheck →
    let m := s.port
    let d := m.directive
    let acked := s.setPort { m with ackCount := m.changeCount }
    (SumsToZero 0x07#8 [] check → exec (.readDirective [] check) s = .next (s.answered .ok
      [byteOf m.changeCount, d.playOrder.code, byteOf d.playId, byteOf (d.playSong / 65536), byteOf (d.playSong / 256),
        byteOf d.playSong, BitVec.ofInt 8 d.keyShift, d.stageOrder.code, byteOf d.stageId, byteOf (d.stageSong / 65536),
        byteOf (d.stageSong / 256), byteOf d.stageSong])) ∧
    (SumsToZero 0x08#8 p check → p.length = 1 → (byteAt p 0).toNat = m.changeCount →
      exec (.ackDirective p check) s = .next (acked.answered .ok [byteOf m.changeCount]) ∧
      (acked.answered .ok [byteOf m.changeCount]).matnAsserted = false) ∧
    (SumsToZero 0x08#8 p check → p.length = 1 → (byteAt p 0).toNat ≠ m.changeCount →
      exec (.ackDirective p check) s = .next (s.answered .stale [byteOf m.changeCount])) ∧
    (SumsToZero 0x0A#8 [] check →
      exec (.repeatAnswer [] check) s = .next (s.answered m.lastAnswer.code m.lastAnswer.payload)) ∧
    (s.matnAsserted = true ↔ m.changeCount ≠ m.ackCount)

/-- R103, R111, R116 to R118, R127, R156, R183, R184: a BLANK scene is one byte and asks no block; a SONG scene has the
sequencer take its waiting advances and come to play time, and carries 54 bytes.  Only the sequencer and the answer change. -/
def Obligations.SceneIsBlankOrSong : Prop :=
  ∀ (check : Byte) (s : State), s.AtCheck → SumsToZero 0x09#8 [] check →
    let blank := s.desk.standby = true ∨ s.deck.state = .idle ∨ s.deck.reached = false
    let T := s.deck.playTime
    let b := s.store.playing
    let two (n : Nat) : List Byte := [byteOf (n / 256), byteOf n]
    let three (n : Nat) : List Byte := [byteOf (n / 65536), byteOf (n / 256), byteOf n]
    let slot (line : Option LyricLine) (i : Nat) : List Byte :=
      match line with
      | none => List.replicate 6 0#8
      | some l => [1#8, byteOf i, l.part.code, (l.stateAt T).code] ++ two (l.wipeAt T)
    let mic (m : MicState) (g : MicGrade) : List Byte :=
      [if m.gateOpen then 1#8 else 0#8, g.live.grade.code, g.live.lean.code,
        byteOf ((g.openNote.map (·.target)).getD 0)] ++
      two (if g.parts = none ∨ g.weight = 0 then 65535 else 10 * g.total / g.weight)
    (blank → exec (.readScene [] check) s = .next (s.answered .ok [0#8])) ∧
    (∀ h, ¬blank → b.header = some h → ∃ q,
      Sequencer.Stepped b T (s.lyric.takeAll b) q ∧
      exec (.readScene [] check) s = .next ((s.setLyric q).answered .ok
        ([1#8, byteOf s.deck.stopId, s.deck.state.code] ++ three T ++ three h.length ++ [byteOf q.settings.rows] ++
          ((List.range 4).flatMap fun r =>
            if r < q.settings.rows then slot (q.window[r]?.bind (b.lyrics[·]?)) ((q.window[r]?).getD 0)
            else List.replicate 6 0#8) ++
          slot (q.scroll.bind (b.lyrics[·.line]?)) ((q.scroll.map (·.line)).getD 0) ++
          [byteOf ((q.scroll.map fun c => 16 * (T - c.start) / q.settings.scroll).getD 255),
            byteOf ((q.countdown.bind fun c => b.lyrics[c.line]?.map fun l =>
              min 4 ((l.start - T + c.step - 1) / c.step)).getD 0)] ++
          mic s.front.micA s.grader.micA ++ mic s.front.micB s.grader.micB)))

/-! ## Chapter 10: the desk line -/

/-- R187, R188, R190, R191: a start condition with an address byte, a stop condition that ends a read or a bare address,
and the bus timeout; none of them changes the reply record. That the timeout, armed here, is started again by the falling
edges of DSCL that a step on an empty queue stands for, that a timeout that is due waits for its row, and that the row
otherwise changes nothing, is the model's choice (log entries 2, 7 and 16). -/
def Obligations.DeskTransactions : Prop :=
  ∀ (a : Byte) (s : State), s.running = true →
    let u := s.desk
    let ended := s.setDesk { u with bus := .idle, busTimer := none }
    (a.toNat / 2 = u.busAddress → exec (.deskStartCondition a) s = .next
      (s.setDesk { u with bus := if a.toNat % 2 = 1 then .reading else .writing, busTimer := some 20 })) ∧
    (a.toNat / 2 ≠ u.busAddress → exec (.deskStartCondition a) s = .next ended) ∧
    exec .deskStopCondition s = .next ended ∧
    (u.bus ≠ .idle → u.busTimer = some 0 → exec .deskBusTimeout s = .next (ended.raise .deskTimeout)) ∧
    (u.bus = .idle ∨ u.busTimer ≠ some 0 → exec .deskBusTimeout s = .next s)

/-- R188, R189: the checks of a desk write in their order, each with the reply it leaves and no other effect; a write that
ends while the unit is not WRITING is no command. That a write row in any other bus state changes nothing is the model's
choice (log entry 7). -/
def Obligations.WriteChecksInOrder : Prop :=
  ∀ (kind : Byte) (p : List Byte) (s : State), s.running = true →
    let c := Instr.ofWrite kind p
    let known := 0x40 ≤ kind.toNat ∧ kind.toNat ≤ 0x58
    (s.desk.bus ≠ .writing → exec c s = .next s) ∧
    (s.desk.bus = .writing → 16 < p.length + 1 → exec c s = .next (s.recorded .badField kind [])) ∧
    (s.desk.bus = .writing → p.length + 1 ≤ 16 → ¬known →
      exec (.deskUnknownKind kind p) s = .next (s.recorded .badKind kind [])) ∧
    (s.desk.bus = .writing → p.length + 1 ≤ 16 → known →
      [0, 0, 2, 2, 2, 2, 1, 0, 0, 3, 0, 6, 1, 2, 1, 0, 1, 1, 0, 1, 0, 0, 0, 0, 0][kind.toNat - 0x40]? ≠ some p.length →
      exec c s = .next (s.recorded .badField kind []))

/-- R31, R171, R193, R196, R197, R203: the desk's reads of the status, the events, the configuration, the board and the line
counters; only the last can change anything, and clears both lines' counters when its option asks. -/
def Obligations.DeskReads : Prop :=
  ∀ (p : List Byte) (s : State), s.AtWrite →
    let yes (b : Bool) : Byte := if b then 1#8 else 0#8
    let two (n : Nat) : List Byte := [byteOf (n / 256), byteOf n]
    let word (w : EventFlags) : List Byte := two (
      (if w.resetSeen then 1 else 0) + (if w.songDone then 2 else 0) + (if w.boardChanged then 4 else 0) +
      (if w.creditsOut then 8 else 0) + (if w.stall then 16 else 0) + (if w.mediaLost then 32 else 0) +
      (if w.lineFault then 64 else 0) + (if w.deskTimeout then 128 else 0) + (if w.woke then 256 else 0) +
      (if w.queueChanged then 512 else 0))
    let c := s.desk.settings
    let counters (u : PanelUnit) : List Byte :=
      [byteOf u.counters.parity, byteOf u.counters.framing, byteOf u.counters.lead, byteOf u.counters.length,
        byteOf u.counters.check, byteOf u.counters.gap, byteOf u.counters.cut, byteOf u.counters.drop]
    let zeroed (u : PanelUnit) : PanelUnit := { u with counters := ⟨0, 0, 0, 0, 0, 0, 0, 0⟩ }
    exec (.status []) s = .next (s.recorded .ok 0x40#8
      ([s.resetUnit.cause.code, s.deck.state.code, yes s.desk.standby, yes s.room.unlimited] ++ two s.room.credits ++
        [yes s.room.locked, byteOf s.room.quota, byteOf s.room.entries.length] ++ two s.lyric.forced ++ [0#8])) ∧
    exec (.readEvents []) s = .next (s.recorded .ok 0x41#8 (word s.desk.flags ++ word s.desk.mask)) ∧
    exec (.configRead []) s = .next (s.recorded .ok 0x4A#8 (two c.lyric.rows ++ two c.lyric.lead ++ two c.lyric.hold ++
      two c.lyric.scroll ++ two c.lyric.gap ++ two c.openThreshold ++ two c.closeThreshold ++
      two (match c.baud with | .r9600 => 9600 | .r19200 => 19200 | .r38400 => 38400) ++
      two (if c.skipAllowed then 1 else 0) ++ two (if c.wakeOnPanel then 1 else 0) ++ two s.room.quota)) ∧
    exec (.readBoard []) s = .next (s.recorded .ok 0x52#8
      (byteOf s.results.board.length :: (s.results.board.zipIdx 1).flatMap fun x =>
        byteOf x.2 :: two x.1.score ++ [byteOf (x.1.song / 65536), byteOf (x.1.song / 256), byteOf x.1.song,
          byteOf x.1.singer, x.1.origin.code, x.1.micMode.code, byteOf x.1.id] ++ two x.1.finish)) ∧
    (p.length = 1 → exec (.readLineCounters p) s = .next (
      (if byteAt p 0 = 0#8 then s else (s.setPanelA (zeroed s.panelA)).setPanelB (zeroed s.panelB)).recorded .ok 0x53#8
        (counters s.panelA ++ counters s.panelB)))

/-- R193, R205: ACK EVENTS clears the named flags and no other, EVENT MASK replaces the mask, and DATN is asserted while some
flag is set whose enable is set. -/
def Obligations.EventFlagsAckedAndMasked : Prop :=
  ∀ (p : List Byte) (s : State), s.AtWrite → p.length = 2 →
    let named (bit : Nat) : Bool := (fieldAt p 0 2).testBit bit
    let f := s.desk.flags
    let left : EventFlags :=
      ⟨f.resetSeen && !named 0, f.songDone && !named 1, f.boardChanged && !named 2, f.creditsOut && !named 3,
        f.stall && !named 4, f.mediaLost && !named 5, f.lineFault && !named 6, f.deskTimeout && !named 7,
        f.woke && !named 8, f.queueChanged && !named 9⟩
    let mask : EventFlags :=
      ⟨named 0, named 1, named 2, named 3, named 4, named 5, named 6, named 7, named 8, named 9⟩
    let word (w : EventFlags) : List Byte :=
      let n := (if w.resetSeen then 1 else 0) + (if w.songDone then 2 else 0) + (if w.boardChanged then 4 else 0) +
        (if w.creditsOut then 8 else 0) + (if w.stall then 16 else 0) + (if w.mediaLost then 32 else 0) +
        (if w.lineFault then 64 else 0) + (if w.deskTimeout then 128 else 0) + (if w.woke then 256 else 0) +
        (if w.queueChanged then 512 else 0)
      [byteOf (n / 256), byteOf n]
    exec (.ackEvents p) s = .next ((s.setDesk { s.desk with flags := left }).recorded .ok 0x42#8 (word left)) ∧
    exec (.eventMask p) s = .next ((s.setDesk { s.desk with mask := mask }).recorded .ok 0x43#8 (word mask)) ∧
    (s.datnAsserted = true ↔ ∃ k, s.desk.flags.has k = true ∧ s.desk.mask.has k = true)

/-- R45, R194, R195: CONFIG SET of each item, with the value clamped as its range asks, and the reply that reports the value
taken and both thresholds; a changed panel baud is pending on both lines. -/
def Obligations.ConfigSetClamps : Prop :=
  ∀ (p : List Byte) (s : State), s.AtWrite → p.length = 3 →
    let item := (byteAt p 0).toNat
    let v := fieldAt p 1 2
    let c := s.desk.settings
    let within (low high : Nat) : Nat := if v < low then low else if high < v then high else v
    let two (n : Nat) : List Byte := [byteOf (n / 256), byteOf n]
    let Takes (t : State) (taken : Nat) : Prop := exec (.configSet p) s = .next (t.recorded .ok 0x49#8
      (byteAt p 0 :: two taken ++ two t.desk.settings.openThreshold ++ two t.desk.settings.closeThreshold))
    let withSettings (c' : Settings) : State := s.setDesk { s.desk with settings := c' }
    let rate : Rate := if v < 14400 then .r9600 else if v < 28800 then .r19200 else .r38400
    let pending (u : PanelUnit) : PanelUnit := { u with pendingRate := if rate = u.rate then none else some rate }
    (item = 1 → Takes (withSettings { c with lyric := { c.lyric with rows := within 2 4 } }) (within 2 4)) ∧
    (item = 2 → Takes (withSettings { c with lyric := { c.lyric with lead := within 500 8000 } }) (within 500 8000)) ∧
    (item = 3 → Takes (withSettings { c with lyric := { c.lyric with hold := within 0 2000 } }) (within 0 2000)) ∧
    (item = 4 → Takes (withSettings { c with lyric := { c.lyric with scroll := within 100 1000 } }) (within 100 1000)) ∧
    (item = 5 → Takes (withSettings { c with lyric := { c.lyric with gap := within 2000 20000 } }) (within 2000 20000)) ∧
    (item = 6 → Takes (withSettings { c with
      openThreshold := within 0 1023,
      closeThreshold := if within 0 1023 < c.closeThreshold then within 0 1023 else c.closeThreshold }) (within 0 1023)) ∧
    (item = 7 →
      let close := if c.openThreshold < within 0 1023 then c.openThreshold else within 0 1023
      Takes (withSettings { c with closeThreshold := close }) close) ∧
    (item = 8 →
      let set := withSettings { c with baud := rate }
      Takes (if rate = c.baud then set else (set.setPanelA (pending s.panelA)).setPanelB (pending s.panelB))
        (match rate with | .r9600 => 9600 | .r19200 => 19200 | .r38400 => 38400)) ∧
    (item = 9 → Takes (withSettings { c with skipAllowed := decide (v ≠ 0) }) (if v = 0 then 0 else 1)) ∧
    (item = 10 → Takes (withSettings { c with wakeOnPanel := decide (v ≠ 0) }) (if v = 0 then 0 else 1)) ∧
    (item = 11 → Takes (s.setRoom { s.room with quota := within 0 32 }) (within 0 32)) ∧
    (item = 0 ∨ 11 < item → exec (.configSet p) s = .next (s.recorded .badField 0x49#8 []))

/-- R23, R52, R65, R92, R115, R158, R168, R169, R202: NEW SESSION empties the results store; ROOM CLEAR empties the queue
and the account, discards staging, drops a song that is held and not finished, and empties the store but for its counter.
That the floor takes the play time at the drop is the model's choice (log entry 12). -/
def Obligations.NewSessionAndRoomClear : Prop :=
  ∀ s : State, s.AtWrite →
    let fresh := s.setResults { history := [], board := [], counter := 0 }
    let caughtLyric := s.lyric.takeAll s.store.playing
    let unscored : MicGrade := ⟨none, 0, none, ⟨.none, .centre⟩, 0, 0, 0, 0, 0⟩
    let emptied := ((((s.setRoom { s.room with entries := [], credits := 0, unlimited := false, shortage := false }).setStore
      { s.store.emptied with state := .empty, owner := none }).setResults
      { s.results with history := [], board := [] }).raise .queueChanged).raise .boardChanged
    let unstaged : DirectiveFields := { s.port.directive with stageOrder := .none, stageId := 0, stageSong := 0 }
    exec (.newSession []) s = .next
      ((if s.results.board = [] then fresh else fresh.raise .boardChanged).recorded .ok 0x54#8 []) ∧
    (s.deck.state = .idle → s.StagingRule → s.Posted →
      exec (.roomClear []) s = .next ((emptied.posting unstaged).recorded .ok 0x55#8 [])) ∧
    (s.deck.state = .stopping → s.StagingRule → s.Posted → exec (.roomClear []) s = .next
      (((emptied.setDeck { s.deck with reached := false }).posting unstaged).recorded .ok 0x55#8 [])) ∧
    (∀ e, s.deck.state ≠ .idle → s.deck.state ≠ .stopping → s.deck.current = some e → s.StagingRule → s.Posted →
      exec (.roomClear []) s = .next (((((emptied.setDeck { s.deck with
        state := .stopping, current := some { e with id := 0 }, reached := false, floor := s.deck.playTime,
        startTimer := none, stallTimer := none, stallLimit := none, stopTimer := some 2000 }).setLyric
        { caughtLyric with window := [], scroll := none, countdown := none }).setGrader
        { mode := .noSong, invalid := false, micA := unscored, micB := unscored, report := none, inbox := [] }).posting
        { unstaged with playOrder := .stop }).recorded .ok 0x55#8 []))

/-- R135, R136, R199, R200, R201: STANDBY in each condition, WAKE out of standby and in it, where the start conditions are
re-examined, and DESK RESET, which enters reset and empties the reply record. That the followers take what they were handed
before a start at WAKE (log entry 10), and that DESK RESET leaves every block but the desk's bus and reply as it was until the
controller leaves reset (log entry 16), is the model's choice. -/
def Obligations.StandbyWakeAndDeskReset : Prop :=
  ∀ s : State, s.AtWrite →
    let off := (s.setDesk { s.desk with standby := true }).setFront { s.front with
      activity := .off, settleTimer := none, conversion := none, micA := ⟨false, 0, 0, false, 0, none⟩,
      micB := ⟨false, 0, 0, false, 0, none⟩ }
    let woken := ((s.setDesk { s.desk with standby := false }).raise .woke).setFront { s.front with
      activity := .settling, settleTimer := some 20 }
    (s.desk.standby = true → exec (.standby []) s = .next (s.recorded .ok 0x56#8 [])) ∧
    (s.desk.standby = false → s.deck.state ≠ .idle → exec (.standby []) s = .next (s.recorded .busy 0x56#8 [])) ∧
    (s.desk.standby = false → s.deck.state = .idle → exec (.standby []) s = .next (off.recorded .ok 0x56#8 [])) ∧
    (s.desk.standby = false → exec (.wake []) s = .next (s.recorded .ok 0x57#8 [])) ∧
    (s.desk.standby = true → s.Posted →
      ∃ t, exec (.wake []) s = .next (t.recorded .ok 0x57#8 []) ∧ woken.Reexamined t) ∧
    exec (.deskReset []) s = .next ((s.setResetUnit { s.resetUnit with
      inReset := true, cause := .deskReset, startupHold := false, holdFromPowerOn := false,
      holdTimer := none }).setDesk { s.desk with
        bus := .idle, busTimer := none, reply := none })

/-! ## The controller as a whole -/

/-- A step runs the command at the front of the queue with the queue's rest.  The model's choice (log entry 2): on an empty
queue the clocks of the lines in transaction go on, out of reset. A byte clocked at the media port makes the next one ready,
and after the answer's check the port is TRAILING (R174, R175); a falling edge of DSCL starts the bus timeout again, unless
its 20 ms have passed (R191). Nothing else changes. -/
def Obligations.StepRunsFrontCommand : Prop :=
  (∀ (c : Instr) (s : State), step (s.setPending (c :: s.pending)) = exec c s) ∧
  (∀ (c : Instr) (rest : List Instr) (s : State), s.pending = c :: rest → step s = exec c (s.setPending rest)) ∧
  (∀ s : State, s.pending = [] → s.running = false → step s = .next s) ∧
  (∀ s : State, s.pending = [] → s.running = true →
    let m := s.port
    let port : MediaPort :=
      if m.state = .command then { m with place := m.place + 1 }
      else if m.state = .answer then
        (if m.place < m.lastAnswer.payload.length + 3 then { m with place := m.place + 1 }
        else { m with state := .trailing, place := 0 })
      else m
    let desk : DeskUnit :=
      if s.desk.bus = .idle ∨ s.desk.busTimer = some 0 then s.desk else { s.desk with busTimer := some 20 }
    step s = .next ((s.setPort port).setDesk desk))

/-- Every command of the table completes in every state, and leaves the commands that wait behind it as they were. That a
row whose condition does not hold changes nothing is the model's choice (log entry 7). -/
def Obligations.EveryCommandCompletesAndKeepsQueue : Prop :=
  ∀ (c : Instr) (s : State), ∃ t, exec c s = .next t ∧ t.pending = s.pending

/-- R198: what each reset condition records and begins, and what ends it. A low supply in a hold that POWER_ON began
leaves POWER_ON recorded; a hold that runs is counted by the ticks, and one that has run out under a held RSTN is over; RSTN
held low or a supply that is not valid keeps the controller in reset. That LEAVING_RESET is given by the surroundings, that a
hold is counted as 65 ticks, and that rows whose condition does not hold change nothing, is the model's choice (log entries 7
and 15); so is that every other block keeps its values while in reset (log entry 16). -/
def Obligations.ResetConditions : Prop :=
  ∀ s : State,
    let u := s.resetUnit
    let restarts := u.inReset = true ∧ u.startupHold = true ∧ u.holdFromPowerOn = true
    exec .powerOn s = .next (s.setResetUnit { u with
      inReset := true, cause := .powerOn, supplyValid := true, startupHold := true, holdFromPowerOn := true,
      holdTimer := some 65 }) ∧
    (restarts → exec .lowSupply s = .next (s.setResetUnit { u with supplyValid := false, holdTimer := none })) ∧
    (¬restarts → exec .lowSupply s = .next (s.setResetUnit { u with
      inReset := true, cause := .lowSupply, supplyValid := false, startupHold := true, holdFromPowerOn := false,
      holdTimer := none })) ∧
    exec .resetPin s = .next (s.setResetUnit { u with
      inReset := true, cause := .resetPin, pinHeld := true, startupHold := false, holdFromPowerOn := false,
      holdTimer := none }) ∧
    (u.inReset = true → u.supplyValid = false → exec .supplyRecovery s = .next (s.setResetUnit { u with
      supplyValid := true, startupHold := true, holdTimer := some 65 })) ∧
    (∀ left, u.inReset = true → u.holdTimer = some left → 1 < left →
      exec .millisecondTick s = .next (s.setResetUnit { u with holdTimer := some (left - 1) })) ∧
    (∀ left, u.inReset = true → u.holdTimer = some left → left ≤ 1 →
      exec .millisecondTick s = .next (s.setResetUnit { u with
        startupHold := false, holdFromPowerOn := false, holdTimer := none })) ∧
    (u.inReset = true → u.holdTimer = none → exec .millisecondTick s = .next s) ∧
    (u.inReset = false ∨ u.supplyValid = true → exec .supplyRecovery s = .next s) ∧
    exec .rstnRelease s = .next (s.setResetUnit { u with pinHeld := false }) ∧
    (∀ pins, u.inReset = false ∨ u.pinHeld = true ∨ u.supplyValid = false → exec (.leavingReset pins) s = .next s)

/-- R24, R46, R66, R93, R120, R137, R160, R172, R186, R187, R198, R204: the controller as it leaves a reset. The queue of
waiting commands and the levels on the input pins are not the controller's to reset. That the row is given by the
surroundings is the model's choice (log entry 15). -/
def Obligations.LeavingResetGivesResetValues : Prop :=
  ∀ (pins : BitVec 2) (s : State), s.resetUnit.inReset = true → s.resetUnit.pinHeld = false →
    s.resetUnit.supplyValid = true →
    let line (lineHigh : Bool) : PanelUnit :=
      { lineHigh := lineHigh, receiver := .waitHigh, assembler := .outside, gapCounting := false, slot := .empty,
        shift := none, rate := .r19200, pendingRate := none, counters := ⟨0, 0, 0, 0, 0, 0, 0, 0⟩ }
    let lyric : LyricSettings := { rows := 2, lead := 2500, hold := 300, scroll := 400, gap := 4000 }
    let empty : Bank := { header := none, lyrics := [], notes := [], counts := ⟨0, 0, 0, 0⟩, marks := ⟨0, 0, 0, 0⟩ }
    let silent : MicState :=
      { gateOpen := false, openRun := 0, closeRun := 0, lastEdge := false, counter := 0, previous := none }
    let unscored : MicGrade :=
      { parts := none, cursor := 0, openNote := none, live := ⟨.none, .centre⟩, total := 0, weight := 0, judged := 0,
        sung := 0, onPitch := 0 }
    exec (.leavingReset pins) s = .next
      { pending := s.pending
        room := { entries := [], lastId := 0, arrivals := 0, credits := 0, unlimited := false, locked := true, quota := 8,
                  shortage := false }
        panelA := line s.panelA.lineHigh
        panelB := line s.panelB.lineHigh
        store := { bank0 := empty, bank1 := empty, stagingIsBank0 := true, state := .empty, owner := none }
        deck := { state := .idle, current := none, stopId := 0, reached := false, floor := 0, lastMark := 0, elapsed := 0,
                  startTimer := none, stallTimer := none, stallLimit := none, stopTimer := none }
        lyric := { window := [], cursor := 0, scroll := none, countdown := none, search := 0, forced := 0, settings := lyric,
                   inbox := [] }
        front := { activity := .on, settleTimer := none, scanTicks := 2, conversion := none, micA := silent, micB := silent }
        grader := { mode := .noSong, invalid := false, micA := unscored, micB := unscored, report := none, inbox := [] }
        results := { history := [], board := [], counter := 0 }
        port := { selectHigh := s.port.selectHigh, state := .waitHigh, firstByte := none, place := 0,
                  directive := { playOrder := .none, playId := 0, playSong := 0, keyShift := 0, stageOrder := .none,
                                 stageId := 0, stageSong := 0 },
                  changeCount := 0, ackCount := 0, lastAnswer := ⟨.nothing, []⟩ }
        desk := { bus := .idle, busAddress := 0x38 + pins.toNat, busTimer := none, reply := none,
                  flags := ⟨true, false, false, false, false, false, false, false, false, false⟩,
                  mask := ⟨true, true, true, true, true, true, true, true, true, true⟩,
                  settings := { lyric := lyric, openThreshold := 96, closeThreshold := 64, baud := .r19200,
                                skipAllowed := true, wakeOnPanel := true },
                  standby := false }
        resetUnit := { inReset := false, cause := s.resetUnit.cause, supplyValid := true, pinHeld := false,
                       startupHold := false, holdFromPowerOn := false, holdTimer := none } }

/-- R186, R198: in reset and in the hold no event but a reset condition or its end is taken: nothing but the levels of the input
pins, MDO's first byte, which a rise of MSN releases, and the count of the hold changes; MATN, DATN and MDO are released, and
neither panel output sends. That the levels are followed there is the model's choice (log entry 7), and so is the count of the
hold (log entry 15). -/
def Obligations.InResetNothingIsTaken : Prop :=
  ∀ (c : Instr) (s : State), s.running = false →
    c ≠ .powerOn → c ≠ .lowSupply → c ≠ .resetPin → c ≠ .supplyRecovery → c ≠ .rstnRelease →
    (∀ pins, c ≠ .leavingReset pins) →
    s.matnAsserted = false ∧ s.datnAsserted = false ∧ s.mdo = none ∧ (∀ l, s.transmitting l = none) ∧
    (c ≠ .millisecondTick → ∃ a b select first, (first = s.port.firstByte ∨ first = none) ∧ exec c s = .next { s with
      panelA := { s.panelA with lineHigh := a }, panelB := { s.panelB with lineHigh := b },
      port := { s.port with selectHigh := select, firstByte := first } }) ∧
    (c = .millisecondTick → ∃ hold fromPowerOn left, exec c s = .next (s.setResetUnit { s.resetUnit with
      startupHold := hold, holdFromPowerOn := fromPowerOn, holdTimer := left }))

/-- What holds of every block by its own chapter holds as the controller leaves reset. -/
def Obligations.ResetMeetsSound : Prop := State.reset.Sound

/-- What holds of every block by its own chapter holds after every step: the queue and the account (R1, R2, R3, R18, R22), the
panel lines (R29, R31, R35, R36), the deck's table (section 4.1), the window (R94), the front end (R122, R135, R136), the grader
and the scores (R139, R149, R150), the results (R163, R166), the configuration (R194, R195), staging (R50), the directive (R51,
R69), the ids (R4) and standby (R93, R200). -/
def Obligations.StepKeepsSound : Prop := ∀ s t : State, s.Sound → step s = .next t → t.Sound

/-- R4, R50, R51, R67, R68, R69: no id is carried twice, staging prepares the head and its bank is as its state says, the deck
is in a row of its table, and the directive says what both do, after every step of a state where that holds. -/
def Obligations.StepKeepsIdsStagingAndDirective : Prop :=
  let Inv (s : State) : Prop :=
    s.room.entries.length ≤ 32 ∧ s.results.history.length ≤ 16 ∧ s.deck.Rule ∧ s.StagingRule ∧ s.IdRule ∧ s.Posted
  ∀ s t : State, Inv s → step s = .next t → Inv t

/-- R192, R193, R204: an event flag that is set stays set through every command but an ACK EVENTS that names it and the leaving
of reset. -/
def Obligations.FlagsClearedByAckOrReset : Prop :=
  ∀ (c : Instr) (s t : State) (f : EventFlag), c.wellFormed = true → exec c s = .next t → s.desk.flags.has f = true →
    t.desk.flags.has f = true ∨ (∃ p, c = .ackEvents p ∧ (fieldAt p 0 2).testBit f.bit = true) ∨
    ∃ pins, c = .leavingReset pins

/-- R18, R19, R23: credits fall only by the desk's CREDITS SET or ROOM CLEAR, by one at the first RUN mark of a song in a room
that is not unlimited, or at the leaving of reset. -/
def Obligations.CreditsFallOnlyWhere : Prop :=
  ∀ (c : Instr) (s t : State), c.wellFormed = true → exec c s = .next t → s.room.credits ≤ 999 →
    t.room.credits < s.room.credits →
    (∃ p, c = .creditsSet p ∨ c = .roomClear p) ∨ (∃ pins, c = .leavingReset pins) ∨
    (∃ p check, (c = .timeMarkRun p check ∨ c = .timeMarkEnd p check) ∧ s.deck.state = .starting ∧
      t.deck.state = .playing ∧ s.room.unlimited = false ∧ t.room.credits + 1 = s.room.credits)

/-- R163, R168, R169, R172: the history changes only by one record put in front, with the newest finish number, at most sixteen
kept, and SONG_DONE set, or by being emptied. -/
def Obligations.HistoryGrowsByOneOrIsEmptied : Prop :=
  ∀ (c : Instr) (s t : State), exec c s = .next t →
    t.results.history = s.results.history ∨ t.results.history = [] ∨
    ∃ r, t.results.history = (r :: s.results.history).take 16 ∧ r.finish = t.results.counter ∧
      t.results.counter = s.nextFinish ∧ t.desk.flags.songDone = true
end

