-- ==== Sys2Proof/Laws/State.lean ====
section
/-! SUPPORT. What each block update leaves in each block, one lemma per field per update, and the same for the unit of a
panel line. -/

namespace Sys2Proof.Machine.State

/-! ### setPending -/

@[simp] theorem setPending_pending (s : State) (v : List Instr) : (s.setPending v).pending = v := rfl
@[simp] theorem setPending_room (s : State) (v : List Instr) : (s.setPending v).room = s.room := rfl
@[simp] theorem setPending_panelA (s : State) (v : List Instr) : (s.setPending v).panelA = s.panelA := rfl
@[simp] theorem setPending_panelB (s : State) (v : List Instr) : (s.setPending v).panelB = s.panelB := rfl
@[simp] theorem setPending_store (s : State) (v : List Instr) : (s.setPending v).store = s.store := rfl
@[simp] theorem setPending_deck (s : State) (v : List Instr) : (s.setPending v).deck = s.deck := rfl
@[simp] theorem setPending_lyric (s : State) (v : List Instr) : (s.setPending v).lyric = s.lyric := rfl
@[simp] theorem setPending_front (s : State) (v : List Instr) : (s.setPending v).front = s.front := rfl
@[simp] theorem setPending_grader (s : State) (v : List Instr) : (s.setPending v).grader = s.grader := rfl
@[simp] theorem setPending_results (s : State) (v : List Instr) : (s.setPending v).results = s.results := rfl
@[simp] theorem setPending_port (s : State) (v : List Instr) : (s.setPending v).port = s.port := rfl
@[simp] theorem setPending_desk (s : State) (v : List Instr) : (s.setPending v).desk = s.desk := rfl
@[simp] theorem setPending_resetUnit (s : State) (v : List Instr) : (s.setPending v).resetUnit = s.resetUnit := rfl
@[simp] theorem setPending_self (s : State) : s.setPending s.pending = s := rfl
@[simp] theorem setPending_setPending (s : State) (v w : List Instr) : (s.setPending v).setPending w = s.setPending w := rfl

/-! ### setRoom -/

@[simp] theorem setRoom_pending (s : State) (v : RoomQueue) : (s.setRoom v).pending = s.pending := rfl
@[simp] theorem setRoom_room (s : State) (v : RoomQueue) : (s.setRoom v).room = v := rfl
@[simp] theorem setRoom_panelA (s : State) (v : RoomQueue) : (s.setRoom v).panelA = s.panelA := rfl
@[simp] theorem setRoom_panelB (s : State) (v : RoomQueue) : (s.setRoom v).panelB = s.panelB := rfl
@[simp] theorem setRoom_store (s : State) (v : RoomQueue) : (s.setRoom v).store = s.store := rfl
@[simp] theorem setRoom_deck (s : State) (v : RoomQueue) : (s.setRoom v).deck = s.deck := rfl
@[simp] theorem setRoom_lyric (s : State) (v : RoomQueue) : (s.setRoom v).lyric = s.lyric := rfl
@[simp] theorem setRoom_front (s : State) (v : RoomQueue) : (s.setRoom v).front = s.front := rfl
@[simp] theorem setRoom_grader (s : State) (v : RoomQueue) : (s.setRoom v).grader = s.grader := rfl
@[simp] theorem setRoom_results (s : State) (v : RoomQueue) : (s.setRoom v).results = s.results := rfl
@[simp] theorem setRoom_port (s : State) (v : RoomQueue) : (s.setRoom v).port = s.port := rfl
@[simp] theorem setRoom_desk (s : State) (v : RoomQueue) : (s.setRoom v).desk = s.desk := rfl
@[simp] theorem setRoom_resetUnit (s : State) (v : RoomQueue) : (s.setRoom v).resetUnit = s.resetUnit := rfl
@[simp] theorem setRoom_self (s : State) : s.setRoom s.room = s := rfl
@[simp] theorem setRoom_setRoom (s : State) (v w : RoomQueue) : (s.setRoom v).setRoom w = s.setRoom w := rfl

/-! ### setPanelA -/

@[simp] theorem setPanelA_pending (s : State) (v : PanelUnit) : (s.setPanelA v).pending = s.pending := rfl
@[simp] theorem setPanelA_room (s : State) (v : PanelUnit) : (s.setPanelA v).room = s.room := rfl
@[simp] theorem setPanelA_panelA (s : State) (v : PanelUnit) : (s.setPanelA v).panelA = v := rfl
@[simp] theorem setPanelA_panelB (s : State) (v : PanelUnit) : (s.setPanelA v).panelB = s.panelB := rfl
@[simp] theorem setPanelA_store (s : State) (v : PanelUnit) : (s.setPanelA v).store = s.store := rfl
@[simp] theorem setPanelA_deck (s : State) (v : PanelUnit) : (s.setPanelA v).deck = s.deck := rfl
@[simp] theorem setPanelA_lyric (s : State) (v : PanelUnit) : (s.setPanelA v).lyric = s.lyric := rfl
@[simp] theorem setPanelA_front (s : State) (v : PanelUnit) : (s.setPanelA v).front = s.front := rfl
@[simp] theorem setPanelA_grader (s : State) (v : PanelUnit) : (s.setPanelA v).grader = s.grader := rfl
@[simp] theorem setPanelA_results (s : State) (v : PanelUnit) : (s.setPanelA v).results = s.results := rfl
@[simp] theorem setPanelA_port (s : State) (v : PanelUnit) : (s.setPanelA v).port = s.port := rfl
@[simp] theorem setPanelA_desk (s : State) (v : PanelUnit) : (s.setPanelA v).desk = s.desk := rfl
@[simp] theorem setPanelA_resetUnit (s : State) (v : PanelUnit) : (s.setPanelA v).resetUnit = s.resetUnit := rfl
@[simp] theorem setPanelA_self (s : State) : s.setPanelA s.panelA = s := rfl
@[simp] theorem setPanelA_setPanelA (s : State) (v w : PanelUnit) : (s.setPanelA v).setPanelA w = s.setPanelA w := rfl

/-! ### setPanelB -/

@[simp] theorem setPanelB_pending (s : State) (v : PanelUnit) : (s.setPanelB v).pending = s.pending := rfl
@[simp] theorem setPanelB_room (s : State) (v : PanelUnit) : (s.setPanelB v).room = s.room := rfl
@[simp] theorem setPanelB_panelA (s : State) (v : PanelUnit) : (s.setPanelB v).panelA = s.panelA := rfl
@[simp] theorem setPanelB_panelB (s : State) (v : PanelUnit) : (s.setPanelB v).panelB = v := rfl
@[simp] theorem setPanelB_store (s : State) (v : PanelUnit) : (s.setPanelB v).store = s.store := rfl
@[simp] theorem setPanelB_deck (s : State) (v : PanelUnit) : (s.setPanelB v).deck = s.deck := rfl
@[simp] theorem setPanelB_lyric (s : State) (v : PanelUnit) : (s.setPanelB v).lyric = s.lyric := rfl
@[simp] theorem setPanelB_front (s : State) (v : PanelUnit) : (s.setPanelB v).front = s.front := rfl
@[simp] theorem setPanelB_grader (s : State) (v : PanelUnit) : (s.setPanelB v).grader = s.grader := rfl
@[simp] theorem setPanelB_results (s : State) (v : PanelUnit) : (s.setPanelB v).results = s.results := rfl
@[simp] theorem setPanelB_port (s : State) (v : PanelUnit) : (s.setPanelB v).port = s.port := rfl
@[simp] theorem setPanelB_desk (s : State) (v : PanelUnit) : (s.setPanelB v).desk = s.desk := rfl
@[simp] theorem setPanelB_resetUnit (s : State) (v : PanelUnit) : (s.setPanelB v).resetUnit = s.resetUnit := rfl
@[simp] theorem setPanelB_self (s : State) : s.setPanelB s.panelB = s := rfl
@[simp] theorem setPanelB_setPanelB (s : State) (v w : PanelUnit) : (s.setPanelB v).setPanelB w = s.setPanelB w := rfl

/-! ### setStore -/

@[simp] theorem setStore_pending (s : State) (v : SongStore) : (s.setStore v).pending = s.pending := rfl
@[simp] theorem setStore_room (s : State) (v : SongStore) : (s.setStore v).room = s.room := rfl
@[simp] theorem setStore_panelA (s : State) (v : SongStore) : (s.setStore v).panelA = s.panelA := rfl
@[simp] theorem setStore_panelB (s : State) (v : SongStore) : (s.setStore v).panelB = s.panelB := rfl
@[simp] theorem setStore_store (s : State) (v : SongStore) : (s.setStore v).store = v := rfl
@[simp] theorem setStore_deck (s : State) (v : SongStore) : (s.setStore v).deck = s.deck := rfl
@[simp] theorem setStore_lyric (s : State) (v : SongStore) : (s.setStore v).lyric = s.lyric := rfl
@[simp] theorem setStore_front (s : State) (v : SongStore) : (s.setStore v).front = s.front := rfl
@[simp] theorem setStore_grader (s : State) (v : SongStore) : (s.setStore v).grader = s.grader := rfl
@[simp] theorem setStore_results (s : State) (v : SongStore) : (s.setStore v).results = s.results := rfl
@[simp] theorem setStore_port (s : State) (v : SongStore) : (s.setStore v).port = s.port := rfl
@[simp] theorem setStore_desk (s : State) (v : SongStore) : (s.setStore v).desk = s.desk := rfl
@[simp] theorem setStore_resetUnit (s : State) (v : SongStore) : (s.setStore v).resetUnit = s.resetUnit := rfl
@[simp] theorem setStore_self (s : State) : s.setStore s.store = s := rfl
@[simp] theorem setStore_setStore (s : State) (v w : SongStore) : (s.setStore v).setStore w = s.setStore w := rfl

/-! ### setDeck -/

@[simp] theorem setDeck_pending (s : State) (v : Deck) : (s.setDeck v).pending = s.pending := rfl
@[simp] theorem setDeck_room (s : State) (v : Deck) : (s.setDeck v).room = s.room := rfl
@[simp] theorem setDeck_panelA (s : State) (v : Deck) : (s.setDeck v).panelA = s.panelA := rfl
@[simp] theorem setDeck_panelB (s : State) (v : Deck) : (s.setDeck v).panelB = s.panelB := rfl
@[simp] theorem setDeck_store (s : State) (v : Deck) : (s.setDeck v).store = s.store := rfl
@[simp] theorem setDeck_deck (s : State) (v : Deck) : (s.setDeck v).deck = v := rfl
@[simp] theorem setDeck_lyric (s : State) (v : Deck) : (s.setDeck v).lyric = s.lyric := rfl
@[simp] theorem setDeck_front (s : State) (v : Deck) : (s.setDeck v).front = s.front := rfl
@[simp] theorem setDeck_grader (s : State) (v : Deck) : (s.setDeck v).grader = s.grader := rfl
@[simp] theorem setDeck_results (s : State) (v : Deck) : (s.setDeck v).results = s.results := rfl
@[simp] theorem setDeck_port (s : State) (v : Deck) : (s.setDeck v).port = s.port := rfl
@[simp] theorem setDeck_desk (s : State) (v : Deck) : (s.setDeck v).desk = s.desk := rfl
@[simp] theorem setDeck_resetUnit (s : State) (v : Deck) : (s.setDeck v).resetUnit = s.resetUnit := rfl
@[simp] theorem setDeck_self (s : State) : s.setDeck s.deck = s := rfl
@[simp] theorem setDeck_setDeck (s : State) (v w : Deck) : (s.setDeck v).setDeck w = s.setDeck w := rfl

/-! ### setLyric -/

@[simp] theorem setLyric_pending (s : State) (v : Sequencer) : (s.setLyric v).pending = s.pending := rfl
@[simp] theorem setLyric_room (s : State) (v : Sequencer) : (s.setLyric v).room = s.room := rfl
@[simp] theorem setLyric_panelA (s : State) (v : Sequencer) : (s.setLyric v).panelA = s.panelA := rfl
@[simp] theorem setLyric_panelB (s : State) (v : Sequencer) : (s.setLyric v).panelB = s.panelB := rfl
@[simp] theorem setLyric_store (s : State) (v : Sequencer) : (s.setLyric v).store = s.store := rfl
@[simp] theorem setLyric_deck (s : State) (v : Sequencer) : (s.setLyric v).deck = s.deck := rfl
@[simp] theorem setLyric_lyric (s : State) (v : Sequencer) : (s.setLyric v).lyric = v := rfl
@[simp] theorem setLyric_front (s : State) (v : Sequencer) : (s.setLyric v).front = s.front := rfl
@[simp] theorem setLyric_grader (s : State) (v : Sequencer) : (s.setLyric v).grader = s.grader := rfl
@[simp] theorem setLyric_results (s : State) (v : Sequencer) : (s.setLyric v).results = s.results := rfl
@[simp] theorem setLyric_port (s : State) (v : Sequencer) : (s.setLyric v).port = s.port := rfl
@[simp] theorem setLyric_desk (s : State) (v : Sequencer) : (s.setLyric v).desk = s.desk := rfl
@[simp] theorem setLyric_resetUnit (s : State) (v : Sequencer) : (s.setLyric v).resetUnit = s.resetUnit := rfl
@[simp] theorem setLyric_self (s : State) : s.setLyric s.lyric = s := rfl
@[simp] theorem setLyric_setLyric (s : State) (v w : Sequencer) : (s.setLyric v).setLyric w = s.setLyric w := rfl

/-! ### setFront -/

@[simp] theorem setFront_pending (s : State) (v : FrontEnd) : (s.setFront v).pending = s.pending := rfl
@[simp] theorem setFront_room (s : State) (v : FrontEnd) : (s.setFront v).room = s.room := rfl
@[simp] theorem setFront_panelA (s : State) (v : FrontEnd) : (s.setFront v).panelA = s.panelA := rfl
@[simp] theorem setFront_panelB (s : State) (v : FrontEnd) : (s.setFront v).panelB = s.panelB := rfl
@[simp] theorem setFront_store (s : State) (v : FrontEnd) : (s.setFront v).store = s.store := rfl
@[simp] theorem setFront_deck (s : State) (v : FrontEnd) : (s.setFront v).deck = s.deck := rfl
@[simp] theorem setFront_lyric (s : State) (v : FrontEnd) : (s.setFront v).lyric = s.lyric := rfl
@[simp] theorem setFront_front (s : State) (v : FrontEnd) : (s.setFront v).front = v := rfl
@[simp] theorem setFront_grader (s : State) (v : FrontEnd) : (s.setFront v).grader = s.grader := rfl
@[simp] theorem setFront_results (s : State) (v : FrontEnd) : (s.setFront v).results = s.results := rfl
@[simp] theorem setFront_port (s : State) (v : FrontEnd) : (s.setFront v).port = s.port := rfl
@[simp] theorem setFront_desk (s : State) (v : FrontEnd) : (s.setFront v).desk = s.desk := rfl
@[simp] theorem setFront_resetUnit (s : State) (v : FrontEnd) : (s.setFront v).resetUnit = s.resetUnit := rfl
@[simp] theorem setFront_self (s : State) : s.setFront s.front = s := rfl
@[simp] theorem setFront_setFront (s : State) (v w : FrontEnd) : (s.setFront v).setFront w = s.setFront w := rfl

/-! ### setGrader -/

@[simp] theorem setGrader_pending (s : State) (v : Grader) : (s.setGrader v).pending = s.pending := rfl
@[simp] theorem setGrader_room (s : State) (v : Grader) : (s.setGrader v).room = s.room := rfl
@[simp] theorem setGrader_panelA (s : State) (v : Grader) : (s.setGrader v).panelA = s.panelA := rfl
@[simp] theorem setGrader_panelB (s : State) (v : Grader) : (s.setGrader v).panelB = s.panelB := rfl
@[simp] theorem setGrader_store (s : State) (v : Grader) : (s.setGrader v).store = s.store := rfl
@[simp] theorem setGrader_deck (s : State) (v : Grader) : (s.setGrader v).deck = s.deck := rfl
@[simp] theorem setGrader_lyric (s : State) (v : Grader) : (s.setGrader v).lyric = s.lyric := rfl
@[simp] theorem setGrader_front (s : State) (v : Grader) : (s.setGrader v).front = s.front := rfl
@[simp] theorem setGrader_grader (s : State) (v : Grader) : (s.setGrader v).grader = v := rfl
@[simp] theorem setGrader_results (s : State) (v : Grader) : (s.setGrader v).results = s.results := rfl
@[simp] theorem setGrader_port (s : State) (v : Grader) : (s.setGrader v).port = s.port := rfl
@[simp] theorem setGrader_desk (s : State) (v : Grader) : (s.setGrader v).desk = s.desk := rfl
@[simp] theorem setGrader_resetUnit (s : State) (v : Grader) : (s.setGrader v).resetUnit = s.resetUnit := rfl
@[simp] theorem setGrader_self (s : State) : s.setGrader s.grader = s := rfl
@[simp] theorem setGrader_setGrader (s : State) (v w : Grader) : (s.setGrader v).setGrader w = s.setGrader w := rfl

/-! ### setResults -/

@[simp] theorem setResults_pending (s : State) (v : Results) : (s.setResults v).pending = s.pending := rfl
@[simp] theorem setResults_room (s : State) (v : Results) : (s.setResults v).room = s.room := rfl
@[simp] theorem setResults_panelA (s : State) (v : Results) : (s.setResults v).panelA = s.panelA := rfl
@[simp] theorem setResults_panelB (s : State) (v : Results) : (s.setResults v).panelB = s.panelB := rfl
@[simp] theorem setResults_store (s : State) (v : Results) : (s.setResults v).store = s.store := rfl
@[simp] theorem setResults_deck (s : State) (v : Results) : (s.setResults v).deck = s.deck := rfl
@[simp] theorem setResults_lyric (s : State) (v : Results) : (s.setResults v).lyric = s.lyric := rfl
@[simp] theorem setResults_front (s : State) (v : Results) : (s.setResults v).front = s.front := rfl
@[simp] theorem setResults_grader (s : State) (v : Results) : (s.setResults v).grader = s.grader := rfl
@[simp] theorem setResults_results (s : State) (v : Results) : (s.setResults v).results = v := rfl
@[simp] theorem setResults_port (s : State) (v : Results) : (s.setResults v).port = s.port := rfl
@[simp] theorem setResults_desk (s : State) (v : Results) : (s.setResults v).desk = s.desk := rfl
@[simp] theorem setResults_resetUnit (s : State) (v : Results) : (s.setResults v).resetUnit = s.resetUnit := rfl
@[simp] theorem setResults_self (s : State) : s.setResults s.results = s := rfl
@[simp] theorem setResults_setResults (s : State) (v w : Results) : (s.setResults v).setResults w = s.setResults w := rfl

/-! ### setPort -/

@[simp] theorem setPort_pending (s : State) (v : MediaPort) : (s.setPort v).pending = s.pending := rfl
@[simp] theorem setPort_room (s : State) (v : MediaPort) : (s.setPort v).room = s.room := rfl
@[simp] theorem setPort_panelA (s : State) (v : MediaPort) : (s.setPort v).panelA = s.panelA := rfl
@[simp] theorem setPort_panelB (s : State) (v : MediaPort) : (s.setPort v).panelB = s.panelB := rfl
@[simp] theorem setPort_store (s : State) (v : MediaPort) : (s.setPort v).store = s.store := rfl
@[simp] theorem setPort_deck (s : State) (v : MediaPort) : (s.setPort v).deck = s.deck := rfl
@[simp] theorem setPort_lyric (s : State) (v : MediaPort) : (s.setPort v).lyric = s.lyric := rfl
@[simp] theorem setPort_front (s : State) (v : MediaPort) : (s.setPort v).front = s.front := rfl
@[simp] theorem setPort_grader (s : State) (v : MediaPort) : (s.setPort v).grader = s.grader := rfl
@[simp] theorem setPort_results (s : State) (v : MediaPort) : (s.setPort v).results = s.results := rfl
@[simp] theorem setPort_port (s : State) (v : MediaPort) : (s.setPort v).port = v := rfl
@[simp] theorem setPort_desk (s : State) (v : MediaPort) : (s.setPort v).desk = s.desk := rfl
@[simp] theorem setPort_resetUnit (s : State) (v : MediaPort) : (s.setPort v).resetUnit = s.resetUnit := rfl
@[simp] theorem setPort_self (s : State) : s.setPort s.port = s := rfl
@[simp] theorem setPort_setPort (s : State) (v w : MediaPort) : (s.setPort v).setPort w = s.setPort w := rfl

/-! ### setDesk -/

@[simp] theorem setDesk_pending (s : State) (v : DeskUnit) : (s.setDesk v).pending = s.pending := rfl
@[simp] theorem setDesk_room (s : State) (v : DeskUnit) : (s.setDesk v).room = s.room := rfl
@[simp] theorem setDesk_panelA (s : State) (v : DeskUnit) : (s.setDesk v).panelA = s.panelA := rfl
@[simp] theorem setDesk_panelB (s : State) (v : DeskUnit) : (s.setDesk v).panelB = s.panelB := rfl
@[simp] theorem setDesk_store (s : State) (v : DeskUnit) : (s.setDesk v).store = s.store := rfl
@[simp] theorem setDesk_deck (s : State) (v : DeskUnit) : (s.setDesk v).deck = s.deck := rfl
@[simp] theorem setDesk_lyric (s : State) (v : DeskUnit) : (s.setDesk v).lyric = s.lyric := rfl
@[simp] theorem setDesk_front (s : State) (v : DeskUnit) : (s.setDesk v).front = s.front := rfl
@[simp] theorem setDesk_grader (s : State) (v : DeskUnit) : (s.setDesk v).grader = s.grader := rfl
@[simp] theorem setDesk_results (s : State) (v : DeskUnit) : (s.setDesk v).results = s.results := rfl
@[simp] theorem setDesk_port (s : State) (v : DeskUnit) : (s.setDesk v).port = s.port := rfl
@[simp] theorem setDesk_desk (s : State) (v : DeskUnit) : (s.setDesk v).desk = v := rfl
@[simp] theorem setDesk_resetUnit (s : State) (v : DeskUnit) : (s.setDesk v).resetUnit = s.resetUnit := rfl
@[simp] theorem setDesk_self (s : State) : s.setDesk s.desk = s := rfl
@[simp] theorem setDesk_setDesk (s : State) (v w : DeskUnit) : (s.setDesk v).setDesk w = s.setDesk w := rfl

/-! ### setResetUnit -/

@[simp] theorem setResetUnit_pending (s : State) (v : ResetUnit) : (s.setResetUnit v).pending = s.pending := rfl
@[simp] theorem setResetUnit_room (s : State) (v : ResetUnit) : (s.setResetUnit v).room = s.room := rfl
@[simp] theorem setResetUnit_panelA (s : State) (v : ResetUnit) : (s.setResetUnit v).panelA = s.panelA := rfl
@[simp] theorem setResetUnit_panelB (s : State) (v : ResetUnit) : (s.setResetUnit v).panelB = s.panelB := rfl
@[simp] theorem setResetUnit_store (s : State) (v : ResetUnit) : (s.setResetUnit v).store = s.store := rfl
@[simp] theorem setResetUnit_deck (s : State) (v : ResetUnit) : (s.setResetUnit v).deck = s.deck := rfl
@[simp] theorem setResetUnit_lyric (s : State) (v : ResetUnit) : (s.setResetUnit v).lyric = s.lyric := rfl
@[simp] theorem setResetUnit_front (s : State) (v : ResetUnit) : (s.setResetUnit v).front = s.front := rfl
@[simp] theorem setResetUnit_grader (s : State) (v : ResetUnit) : (s.setResetUnit v).grader = s.grader := rfl
@[simp] theorem setResetUnit_results (s : State) (v : ResetUnit) : (s.setResetUnit v).results = s.results := rfl
@[simp] theorem setResetUnit_port (s : State) (v : ResetUnit) : (s.setResetUnit v).port = s.port := rfl
@[simp] theorem setResetUnit_desk (s : State) (v : ResetUnit) : (s.setResetUnit v).desk = s.desk := rfl
@[simp] theorem setResetUnit_resetUnit (s : State) (v : ResetUnit) : (s.setResetUnit v).resetUnit = v := rfl
@[simp] theorem setResetUnit_self (s : State) : s.setResetUnit s.resetUnit = s := rfl
@[simp] theorem setResetUnit_setResetUnit (s : State) (v w : ResetUnit) : (s.setResetUnit v).setResetUnit w = s.setResetUnit w := rfl

/-! ### setPanel -/

@[simp] theorem setPanel_pending (s : State) (l : PanelLine) (u : PanelUnit) : (s.setPanel l u).pending = s.pending := by
  cases l <;> rfl
@[simp] theorem setPanel_room (s : State) (l : PanelLine) (u : PanelUnit) : (s.setPanel l u).room = s.room := by
  cases l <;> rfl
@[simp] theorem setPanel_store (s : State) (l : PanelLine) (u : PanelUnit) : (s.setPanel l u).store = s.store := by
  cases l <;> rfl
@[simp] theorem setPanel_deck (s : State) (l : PanelLine) (u : PanelUnit) : (s.setPanel l u).deck = s.deck := by
  cases l <;> rfl
@[simp] theorem setPanel_lyric (s : State) (l : PanelLine) (u : PanelUnit) : (s.setPanel l u).lyric = s.lyric := by
  cases l <;> rfl
@[simp] theorem setPanel_front (s : State) (l : PanelLine) (u : PanelUnit) : (s.setPanel l u).front = s.front := by
  cases l <;> rfl
@[simp] theorem setPanel_grader (s : State) (l : PanelLine) (u : PanelUnit) : (s.setPanel l u).grader = s.grader := by
  cases l <;> rfl
@[simp] theorem setPanel_results (s : State) (l : PanelLine) (u : PanelUnit) : (s.setPanel l u).results = s.results := by
  cases l <;> rfl
@[simp] theorem setPanel_port (s : State) (l : PanelLine) (u : PanelUnit) : (s.setPanel l u).port = s.port := by
  cases l <;> rfl
@[simp] theorem setPanel_desk (s : State) (l : PanelLine) (u : PanelUnit) : (s.setPanel l u).desk = s.desk := by
  cases l <;> rfl
@[simp] theorem setPanel_resetUnit (s : State) (l : PanelLine) (u : PanelUnit) : (s.setPanel l u).resetUnit = s.resetUnit := by
  cases l <;> rfl
@[simp] theorem panel_setPanel (s : State) (l : PanelLine) (u : PanelUnit) : (s.setPanel l u).panel l = u := by
  cases l <;> rfl
@[simp] theorem setPanel_setPanel (s : State) (l : PanelLine) (u v : PanelUnit) :
    (s.setPanel l u).setPanel l v = s.setPanel l v := by
  cases l <;> rfl
@[simp] theorem setPanel_panel (s : State) (l : PanelLine) : s.setPanel l (s.panel l) = s := by
  cases l <;> rfl

@[simp] theorem panel_setPending (s : State) (v : List Instr) (l : PanelLine) : (s.setPending v).panel l = s.panel l := by
  cases l <;> rfl
theorem setPanel_setPending (s : State) (l : PanelLine) (u : PanelUnit) (v : List Instr) :
    (s.setPanel l u).setPending v = (s.setPending v).setPanel l u := by
  cases l <;> rfl
@[simp] theorem panel_setRoom (s : State) (v : RoomQueue) (l : PanelLine) : (s.setRoom v).panel l = s.panel l := by
  cases l <;> rfl
theorem setPanel_setRoom (s : State) (l : PanelLine) (u : PanelUnit) (v : RoomQueue) :
    (s.setPanel l u).setRoom v = (s.setRoom v).setPanel l u := by
  cases l <;> rfl
@[simp] theorem panel_setStore (s : State) (v : SongStore) (l : PanelLine) : (s.setStore v).panel l = s.panel l := by
  cases l <;> rfl
theorem setPanel_setStore (s : State) (l : PanelLine) (u : PanelUnit) (v : SongStore) :
    (s.setPanel l u).setStore v = (s.setStore v).setPanel l u := by
  cases l <;> rfl
@[simp] theorem panel_setDeck (s : State) (v : Deck) (l : PanelLine) : (s.setDeck v).panel l = s.panel l := by
  cases l <;> rfl
theorem setPanel_setDeck (s : State) (l : PanelLine) (u : PanelUnit) (v : Deck) :
    (s.setPanel l u).setDeck v = (s.setDeck v).setPanel l u := by
  cases l <;> rfl
@[simp] theorem panel_setLyric (s : State) (v : Sequencer) (l : PanelLine) : (s.setLyric v).panel l = s.panel l := by
  cases l <;> rfl
theorem setPanel_setLyric (s : State) (l : PanelLine) (u : PanelUnit) (v : Sequencer) :
    (s.setPanel l u).setLyric v = (s.setLyric v).setPanel l u := by
  cases l <;> rfl
@[simp] theorem panel_setFront (s : State) (v : FrontEnd) (l : PanelLine) : (s.setFront v).panel l = s.panel l := by
  cases l <;> rfl
theorem setPanel_setFront (s : State) (l : PanelLine) (u : PanelUnit) (v : FrontEnd) :
    (s.setPanel l u).setFront v = (s.setFront v).setPanel l u := by
  cases l <;> rfl
@[simp] theorem panel_setGrader (s : State) (v : Grader) (l : PanelLine) : (s.setGrader v).panel l = s.panel l := by
  cases l <;> rfl
theorem setPanel_setGrader (s : State) (l : PanelLine) (u : PanelUnit) (v : Grader) :
    (s.setPanel l u).setGrader v = (s.setGrader v).setPanel l u := by
  cases l <;> rfl
@[simp] theorem panel_setResults (s : State) (v : Results) (l : PanelLine) : (s.setResults v).panel l = s.panel l := by
  cases l <;> rfl
theorem setPanel_setResults (s : State) (l : PanelLine) (u : PanelUnit) (v : Results) :
    (s.setPanel l u).setResults v = (s.setResults v).setPanel l u := by
  cases l <;> rfl
@[simp] theorem panel_setPort (s : State) (v : MediaPort) (l : PanelLine) : (s.setPort v).panel l = s.panel l := by
  cases l <;> rfl
theorem setPanel_setPort (s : State) (l : PanelLine) (u : PanelUnit) (v : MediaPort) :
    (s.setPanel l u).setPort v = (s.setPort v).setPanel l u := by
  cases l <;> rfl
@[simp] theorem panel_setDesk (s : State) (v : DeskUnit) (l : PanelLine) : (s.setDesk v).panel l = s.panel l := by
  cases l <;> rfl
theorem setPanel_setDesk (s : State) (l : PanelLine) (u : PanelUnit) (v : DeskUnit) :
    (s.setPanel l u).setDesk v = (s.setDesk v).setPanel l u := by
  cases l <;> rfl
@[simp] theorem panel_setResetUnit (s : State) (v : ResetUnit) (l : PanelLine) : (s.setResetUnit v).panel l = s.panel l := by
  cases l <;> rfl
theorem setPanel_setResetUnit (s : State) (l : PanelLine) (u : PanelUnit) (v : ResetUnit) :
    (s.setPanel l u).setResetUnit v = (s.setResetUnit v).setPanel l u := by
  cases l <;> rfl

/-- Two states with the same blocks are the same state. -/
theorem ext_blocks {s t : State} (h1 : s.pending = t.pending) (h2 : s.room = t.room) (h3 : s.panelA = t.panelA)
    (h4 : s.panelB = t.panelB) (h5 : s.store = t.store) (h6 : s.deck = t.deck) (h7 : s.lyric = t.lyric)
    (h8 : s.front = t.front) (h9 : s.grader = t.grader) (h10 : s.results = t.results) (h11 : s.port = t.port)
    (h12 : s.desk = t.desk) (h13 : s.resetUnit = t.resetUnit) : s = t := by
  cases s; cases t; simp_all

end Sys2Proof.Machine.State
end

