-- ==== Sys2Proof/Laws/Clocks.lean ====
section
/-! SUPPORT. What the lines' clocks and the count of the start-up hold can do: one lemma for each of them, and what they leave
unchanged. -/

namespace Sys2Proof.Machine

/-! ## The media port's clock (R174, R175) -/

/-- A byte clocked at the port moves its place on, or takes it from the answer's check into TRAILING, or does nothing. -/
theorem MediaPort.clockByte_cases (m : MediaPort) :
    (m.state = .command ∧ m.clockByte = { m with place := m.place + 1 }) ∨
    (m.state = .answer ∧ m.place + 1 < m.lastAnswer.bytes.length ∧ m.clockByte = { m with place := m.place + 1 }) ∨
    (m.state = .answer ∧ m.lastAnswer.bytes.length ≤ m.place + 1 ∧
      m.clockByte = { m with state := .trailing, place := 0 }) ∨
    (m.state ≠ .command ∧ m.state ≠ .answer ∧ m.clockByte = m) := by
  unfold MediaPort.clockByte
  split
  · simp_all
  · simp_all
  · simp_all
  · split <;> simp_all
  · simp_all

/-- An answer goes out in four bytes and one for each byte of its payload (R173). -/
@[simp] theorem Answer.bytes_length (a : Answer) : a.bytes.length = a.payload.length + 4 := by
  simp [Answer.bytes, field2]

/-- A byte clocked changes the port's state and place alone. -/
theorem MediaPort.clockByte_eq (m : MediaPort) :
    m.clockByte = { m with state := m.clockByte.state, place := m.clockByte.place } := by
  obtain ⟨-, h⟩ | ⟨-, -, h⟩ | ⟨-, -, h⟩ | ⟨-, -, h⟩ := m.clockByte_cases <;> rw [h]

@[simp] theorem MediaPort.clockByte_directive (m : MediaPort) : m.clockByte.directive = m.directive := by
  rw [m.clockByte_eq]

/-! ## The desk bus clock (R191) -/

/-- A falling edge of DSCL arms the bus timeout afresh, or does nothing. -/
theorem DeskUnit.clockFall_cases (u : DeskUnit) :
    (u.bus ≠ .idle ∧ u.busTimer ≠ some 0 ∧ u.clockFall = { u with busTimer := some 20 }) ∨
    ((u.bus = .idle ∨ u.busTimer = some 0) ∧ u.clockFall = u) := by
  unfold DeskUnit.clockFall
  split <;> simp_all

/-- A falling edge of DSCL changes the bus timeout alone. -/
theorem DeskUnit.clockFall_eq (u : DeskUnit) : u.clockFall = { u with busTimer := u.clockFall.busTimer } := by
  obtain ⟨-, -, h⟩ | ⟨-, h⟩ := u.clockFall_cases <;> rw [h]

@[simp] theorem DeskUnit.clockFall_settings (u : DeskUnit) : u.clockFall.settings = u.settings := by
  rw [u.clockFall_eq]

@[simp] theorem DeskUnit.clockFall_standby (u : DeskUnit) : u.clockFall.standby = u.standby := by
  rw [u.clockFall_eq]

@[simp] theorem DeskUnit.clockFall_flags (u : DeskUnit) : u.clockFall.flags = u.flags := by
  rw [u.clockFall_eq]

/-! ## The count of the start-up hold (R198) -/

/-- A tick in reset counts a hold down, or ends it, or finds none that is counted. -/
theorem ResetUnit.tick_cases (r : ResetUnit) :
    (r.holdTimer = none ∧ r.tick = r) ∨
    (∃ n, r.holdTimer = some n ∧ 1 < n ∧ r.tick = { r with holdTimer := some (n - 1) }) ∨
    (∃ n, r.holdTimer = some n ∧ n ≤ 1 ∧
      r.tick = { r with startupHold := false, holdFromPowerOn := false, holdTimer := none }) := by
  unfold ResetUnit.tick
  split
  · simp_all
  · split
    · exact .inr (.inl ⟨_, ‹_›, ‹_›, rfl⟩)
    · exact .inr (.inr ⟨_, ‹_›, by omega, rfl⟩)

/-! ## What a step is -/

/-- With a command in front, a step is that command on the state with the rest waiting. -/
theorem step_cons {c : Instr} {rest : List Instr} {s : State} (h : s.pending = c :: rest) :
    step s = exec c (s.setPending rest) := by
  simp [step, h]

/-- With no command waiting, a step clocks the lines, out of reset. -/
theorem step_empty {s : State} (h : s.pending = []) : step s = .next (s.live State.clockLines) := by
  simp [step, h]

end Sys2Proof.Machine
end

