-- ==== Sys2Proof/Laws/Frames.lean ====
section
/-! SUPPORT. The blocks each shared operation leaves as they were: one lemma per operation and block. -/

namespace Sys2Proof.Machine.State

@[simp] theorem raise_pending (s : State) (f : EventFlag) : (s.raise f).pending = s.pending := by
  simp [State.raise]
@[simp] theorem raise_room (s : State) (f : EventFlag) : (s.raise f).room = s.room := by
  simp [State.raise]
@[simp] theorem raise_panelA (s : State) (f : EventFlag) : (s.raise f).panelA = s.panelA := by
  simp [State.raise]
@[simp] theorem raise_panelB (s : State) (f : EventFlag) : (s.raise f).panelB = s.panelB := by
  simp [State.raise]
@[simp] theorem raise_store (s : State) (f : EventFlag) : (s.raise f).store = s.store := by
  simp [State.raise]
@[simp] theorem raise_deck (s : State) (f : EventFlag) : (s.raise f).deck = s.deck := by
  simp [State.raise]
@[simp] theorem raise_lyric (s : State) (f : EventFlag) : (s.raise f).lyric = s.lyric := by
  simp [State.raise]
@[simp] theorem raise_front (s : State) (f : EventFlag) : (s.raise f).front = s.front := by
  simp [State.raise]
@[simp] theorem raise_grader (s : State) (f : EventFlag) : (s.raise f).grader = s.grader := by
  simp [State.raise]
@[simp] theorem raise_results (s : State) (f : EventFlag) : (s.raise f).results = s.results := by
  simp [State.raise]
@[simp] theorem raise_port (s : State) (f : EventFlag) : (s.raise f).port = s.port := by
  simp [State.raise]
@[simp] theorem raise_resetUnit (s : State) (f : EventFlag) : (s.raise f).resetUnit = s.resetUnit := by
  simp [State.raise]

@[simp] theorem post_pending (s : State) : (s.post).pending = s.pending := by
  unfold State.post; (repeat' split) <;> simp
@[simp] theorem post_room (s : State) : (s.post).room = s.room := by
  unfold State.post; (repeat' split) <;> simp
@[simp] theorem post_panelA (s : State) : (s.post).panelA = s.panelA := by
  unfold State.post; (repeat' split) <;> simp
@[simp] theorem post_panelB (s : State) : (s.post).panelB = s.panelB := by
  unfold State.post; (repeat' split) <;> simp
@[simp] theorem post_store (s : State) : (s.post).store = s.store := by
  unfold State.post; (repeat' split) <;> simp
@[simp] theorem post_deck (s : State) : (s.post).deck = s.deck := by
  unfold State.post; (repeat' split) <;> simp
@[simp] theorem post_lyric (s : State) : (s.post).lyric = s.lyric := by
  unfold State.post; (repeat' split) <;> simp
@[simp] theorem post_front (s : State) : (s.post).front = s.front := by
  unfold State.post; (repeat' split) <;> simp
@[simp] theorem post_grader (s : State) : (s.post).grader = s.grader := by
  unfold State.post; (repeat' split) <;> simp
@[simp] theorem post_results (s : State) : (s.post).results = s.results := by
  unfold State.post; (repeat' split) <;> simp
@[simp] theorem post_desk (s : State) : (s.post).desk = s.desk := by
  unfold State.post; (repeat' split) <;> simp
@[simp] theorem post_resetUnit (s : State) : (s.post).resetUnit = s.resetUnit := by
  unfold State.post; (repeat' split) <;> simp

@[simp] theorem lyricCatchUp_pending (s : State) : (s.lyricCatchUp).pending = s.pending := by
  simp [State.lyricCatchUp]
@[simp] theorem lyricCatchUp_room (s : State) : (s.lyricCatchUp).room = s.room := by
  simp [State.lyricCatchUp]
@[simp] theorem lyricCatchUp_panelA (s : State) : (s.lyricCatchUp).panelA = s.panelA := by
  simp [State.lyricCatchUp]
@[simp] theorem lyricCatchUp_panelB (s : State) : (s.lyricCatchUp).panelB = s.panelB := by
  simp [State.lyricCatchUp]
@[simp] theorem lyricCatchUp_store (s : State) : (s.lyricCatchUp).store = s.store := by
  simp [State.lyricCatchUp]
@[simp] theorem lyricCatchUp_deck (s : State) : (s.lyricCatchUp).deck = s.deck := by
  simp [State.lyricCatchUp]
@[simp] theorem lyricCatchUp_front (s : State) : (s.lyricCatchUp).front = s.front := by
  simp [State.lyricCatchUp]
@[simp] theorem lyricCatchUp_grader (s : State) : (s.lyricCatchUp).grader = s.grader := by
  simp [State.lyricCatchUp]
@[simp] theorem lyricCatchUp_results (s : State) : (s.lyricCatchUp).results = s.results := by
  simp [State.lyricCatchUp]
@[simp] theorem lyricCatchUp_port (s : State) : (s.lyricCatchUp).port = s.port := by
  simp [State.lyricCatchUp]
@[simp] theorem lyricCatchUp_desk (s : State) : (s.lyricCatchUp).desk = s.desk := by
  simp [State.lyricCatchUp]
@[simp] theorem lyricCatchUp_resetUnit (s : State) : (s.lyricCatchUp).resetUnit = s.resetUnit := by
  simp [State.lyricCatchUp]

@[simp] theorem graderCatchUp_pending (s : State) : (s.graderCatchUp).pending = s.pending := by
  simp [State.graderCatchUp]
@[simp] theorem graderCatchUp_room (s : State) : (s.graderCatchUp).room = s.room := by
  simp [State.graderCatchUp]
@[simp] theorem graderCatchUp_panelA (s : State) : (s.graderCatchUp).panelA = s.panelA := by
  simp [State.graderCatchUp]
@[simp] theorem graderCatchUp_panelB (s : State) : (s.graderCatchUp).panelB = s.panelB := by
  simp [State.graderCatchUp]
@[simp] theorem graderCatchUp_store (s : State) : (s.graderCatchUp).store = s.store := by
  simp [State.graderCatchUp]
@[simp] theorem graderCatchUp_deck (s : State) : (s.graderCatchUp).deck = s.deck := by
  simp [State.graderCatchUp]
@[simp] theorem graderCatchUp_lyric (s : State) : (s.graderCatchUp).lyric = s.lyric := by
  simp [State.graderCatchUp]
@[simp] theorem graderCatchUp_front (s : State) : (s.graderCatchUp).front = s.front := by
  simp [State.graderCatchUp]
@[simp] theorem graderCatchUp_results (s : State) : (s.graderCatchUp).results = s.results := by
  simp [State.graderCatchUp]
@[simp] theorem graderCatchUp_port (s : State) : (s.graderCatchUp).port = s.port := by
  simp [State.graderCatchUp]
@[simp] theorem graderCatchUp_desk (s : State) : (s.graderCatchUp).desk = s.desk := by
  simp [State.graderCatchUp]
@[simp] theorem graderCatchUp_resetUnit (s : State) : (s.graderCatchUp).resetUnit = s.resetUnit := by
  simp [State.graderCatchUp]

@[simp] theorem handAdvance_pending (s : State) (k : AdvanceKind) : (s.handAdvance k).pending = s.pending := by
  simp [State.handAdvance]
@[simp] theorem handAdvance_room (s : State) (k : AdvanceKind) : (s.handAdvance k).room = s.room := by
  simp [State.handAdvance]
@[simp] theorem handAdvance_panelA (s : State) (k : AdvanceKind) : (s.handAdvance k).panelA = s.panelA := by
  simp [State.handAdvance]
@[simp] theorem handAdvance_panelB (s : State) (k : AdvanceKind) : (s.handAdvance k).panelB = s.panelB := by
  simp [State.handAdvance]
@[simp] theorem handAdvance_store (s : State) (k : AdvanceKind) : (s.handAdvance k).store = s.store := by
  simp [State.handAdvance]
@[simp] theorem handAdvance_deck (s : State) (k : AdvanceKind) : (s.handAdvance k).deck = s.deck := by
  simp [State.handAdvance]
@[simp] theorem handAdvance_front (s : State) (k : AdvanceKind) : (s.handAdvance k).front = s.front := by
  simp [State.handAdvance]
@[simp] theorem handAdvance_results (s : State) (k : AdvanceKind) : (s.handAdvance k).results = s.results := by
  simp [State.handAdvance]
@[simp] theorem handAdvance_port (s : State) (k : AdvanceKind) : (s.handAdvance k).port = s.port := by
  simp [State.handAdvance]
@[simp] theorem handAdvance_desk (s : State) (k : AdvanceKind) : (s.handAdvance k).desk = s.desk := by
  simp [State.handAdvance]
@[simp] theorem handAdvance_resetUnit (s : State) (k : AdvanceKind) : (s.handAdvance k).resetUnit = s.resetUnit := by
  simp [State.handAdvance]

@[simp] theorem lyricNewSong_pending (s : State) : (s.lyricNewSong).pending = s.pending := by
  simp [State.lyricNewSong]
@[simp] theorem lyricNewSong_room (s : State) : (s.lyricNewSong).room = s.room := by
  simp [State.lyricNewSong]
@[simp] theorem lyricNewSong_panelA (s : State) : (s.lyricNewSong).panelA = s.panelA := by
  simp [State.lyricNewSong]
@[simp] theorem lyricNewSong_panelB (s : State) : (s.lyricNewSong).panelB = s.panelB := by
  simp [State.lyricNewSong]
@[simp] theorem lyricNewSong_store (s : State) : (s.lyricNewSong).store = s.store := by
  simp [State.lyricNewSong]
@[simp] theorem lyricNewSong_deck (s : State) : (s.lyricNewSong).deck = s.deck := by
  simp [State.lyricNewSong]
@[simp] theorem lyricNewSong_front (s : State) : (s.lyricNewSong).front = s.front := by
  simp [State.lyricNewSong]
@[simp] theorem lyricNewSong_grader (s : State) : (s.lyricNewSong).grader = s.grader := by
  simp [State.lyricNewSong]
@[simp] theorem lyricNewSong_results (s : State) : (s.lyricNewSong).results = s.results := by
  simp [State.lyricNewSong]
@[simp] theorem lyricNewSong_port (s : State) : (s.lyricNewSong).port = s.port := by
  simp [State.lyricNewSong]
@[simp] theorem lyricNewSong_desk (s : State) : (s.lyricNewSong).desk = s.desk := by
  simp [State.lyricNewSong]
@[simp] theorem lyricNewSong_resetUnit (s : State) : (s.lyricNewSong).resetUnit = s.resetUnit := by
  simp [State.lyricNewSong]

@[simp] theorem lyricDropSong_pending (s : State) : (s.lyricDropSong).pending = s.pending := by
  simp [State.lyricDropSong]
@[simp] theorem lyricDropSong_room (s : State) : (s.lyricDropSong).room = s.room := by
  simp [State.lyricDropSong]
@[simp] theorem lyricDropSong_panelA (s : State) : (s.lyricDropSong).panelA = s.panelA := by
  simp [State.lyricDropSong]
@[simp] theorem lyricDropSong_panelB (s : State) : (s.lyricDropSong).panelB = s.panelB := by
  simp [State.lyricDropSong]
@[simp] theorem lyricDropSong_store (s : State) : (s.lyricDropSong).store = s.store := by
  simp [State.lyricDropSong]
@[simp] theorem lyricDropSong_deck (s : State) : (s.lyricDropSong).deck = s.deck := by
  simp [State.lyricDropSong]
@[simp] theorem lyricDropSong_front (s : State) : (s.lyricDropSong).front = s.front := by
  simp [State.lyricDropSong]
@[simp] theorem lyricDropSong_grader (s : State) : (s.lyricDropSong).grader = s.grader := by
  simp [State.lyricDropSong]
@[simp] theorem lyricDropSong_results (s : State) : (s.lyricDropSong).results = s.results := by
  simp [State.lyricDropSong]
@[simp] theorem lyricDropSong_port (s : State) : (s.lyricDropSong).port = s.port := by
  simp [State.lyricDropSong]
@[simp] theorem lyricDropSong_desk (s : State) : (s.lyricDropSong).desk = s.desk := by
  simp [State.lyricDropSong]
@[simp] theorem lyricDropSong_resetUnit (s : State) : (s.lyricDropSong).resetUnit = s.resetUnit := by
  simp [State.lyricDropSong]

@[simp] theorem graderNewSong_pending (s : State) : (s.graderNewSong).pending = s.pending := by
  unfold State.graderNewSong; (repeat' split) <;> simp
@[simp] theorem graderNewSong_room (s : State) : (s.graderNewSong).room = s.room := by
  unfold State.graderNewSong; (repeat' split) <;> simp
@[simp] theorem graderNewSong_panelA (s : State) : (s.graderNewSong).panelA = s.panelA := by
  unfold State.graderNewSong; (repeat' split) <;> simp
@[simp] theorem graderNewSong_panelB (s : State) : (s.graderNewSong).panelB = s.panelB := by
  unfold State.graderNewSong; (repeat' split) <;> simp
@[simp] theorem graderNewSong_store (s : State) : (s.graderNewSong).store = s.store := by
  unfold State.graderNewSong; (repeat' split) <;> simp
@[simp] theorem graderNewSong_deck (s : State) : (s.graderNewSong).deck = s.deck := by
  unfold State.graderNewSong; (repeat' split) <;> simp
@[simp] theorem graderNewSong_lyric (s : State) : (s.graderNewSong).lyric = s.lyric := by
  unfold State.graderNewSong; (repeat' split) <;> simp
@[simp] theorem graderNewSong_front (s : State) : (s.graderNewSong).front = s.front := by
  unfold State.graderNewSong; (repeat' split) <;> simp
@[simp] theorem graderNewSong_results (s : State) : (s.graderNewSong).results = s.results := by
  unfold State.graderNewSong; (repeat' split) <;> simp
@[simp] theorem graderNewSong_port (s : State) : (s.graderNewSong).port = s.port := by
  unfold State.graderNewSong; (repeat' split) <;> simp
@[simp] theorem graderNewSong_desk (s : State) : (s.graderNewSong).desk = s.desk := by
  unfold State.graderNewSong; (repeat' split) <;> simp
@[simp] theorem graderNewSong_resetUnit (s : State) : (s.graderNewSong).resetUnit = s.resetUnit := by
  unfold State.graderNewSong; (repeat' split) <;> simp

@[simp] theorem graderFinalScores_pending (s : State) (t : Nat) : (s.graderFinalScores t).pending = s.pending := by
  simp [State.graderFinalScores]
@[simp] theorem graderFinalScores_room (s : State) (t : Nat) : (s.graderFinalScores t).room = s.room := by
  simp [State.graderFinalScores]
@[simp] theorem graderFinalScores_panelA (s : State) (t : Nat) : (s.graderFinalScores t).panelA = s.panelA := by
  simp [State.graderFinalScores]
@[simp] theorem graderFinalScores_panelB (s : State) (t : Nat) : (s.graderFinalScores t).panelB = s.panelB := by
  simp [State.graderFinalScores]
@[simp] theorem graderFinalScores_store (s : State) (t : Nat) : (s.graderFinalScores t).store = s.store := by
  simp [State.graderFinalScores]
@[simp] theorem graderFinalScores_deck (s : State) (t : Nat) : (s.graderFinalScores t).deck = s.deck := by
  simp [State.graderFinalScores]
@[simp] theorem graderFinalScores_lyric (s : State) (t : Nat) : (s.graderFinalScores t).lyric = s.lyric := by
  simp [State.graderFinalScores]
@[simp] theorem graderFinalScores_front (s : State) (t : Nat) : (s.graderFinalScores t).front = s.front := by
  simp [State.graderFinalScores]
@[simp] theorem graderFinalScores_results (s : State) (t : Nat) : (s.graderFinalScores t).results = s.results := by
  simp [State.graderFinalScores]
@[simp] theorem graderFinalScores_port (s : State) (t : Nat) : (s.graderFinalScores t).port = s.port := by
  simp [State.graderFinalScores]
@[simp] theorem graderFinalScores_desk (s : State) (t : Nat) : (s.graderFinalScores t).desk = s.desk := by
  simp [State.graderFinalScores]
@[simp] theorem graderFinalScores_resetUnit (s : State) (t : Nat) : (s.graderFinalScores t).resetUnit = s.resetUnit := by
  simp [State.graderFinalScores]

@[simp] theorem graderSongEnded_pending (s : State) : (s.graderSongEnded).pending = s.pending := by
  simp [State.graderSongEnded]
@[simp] theorem graderSongEnded_room (s : State) : (s.graderSongEnded).room = s.room := by
  simp [State.graderSongEnded]
@[simp] theorem graderSongEnded_panelA (s : State) : (s.graderSongEnded).panelA = s.panelA := by
  simp [State.graderSongEnded]
@[simp] theorem graderSongEnded_panelB (s : State) : (s.graderSongEnded).panelB = s.panelB := by
  simp [State.graderSongEnded]
@[simp] theorem graderSongEnded_store (s : State) : (s.graderSongEnded).store = s.store := by
  simp [State.graderSongEnded]
@[simp] theorem graderSongEnded_deck (s : State) : (s.graderSongEnded).deck = s.deck := by
  simp [State.graderSongEnded]
@[simp] theorem graderSongEnded_lyric (s : State) : (s.graderSongEnded).lyric = s.lyric := by
  simp [State.graderSongEnded]
@[simp] theorem graderSongEnded_front (s : State) : (s.graderSongEnded).front = s.front := by
  simp [State.graderSongEnded]
@[simp] theorem graderSongEnded_results (s : State) : (s.graderSongEnded).results = s.results := by
  simp [State.graderSongEnded]
@[simp] theorem graderSongEnded_port (s : State) : (s.graderSongEnded).port = s.port := by
  simp [State.graderSongEnded]
@[simp] theorem graderSongEnded_desk (s : State) : (s.graderSongEnded).desk = s.desk := by
  simp [State.graderSongEnded]
@[simp] theorem graderSongEnded_resetUnit (s : State) : (s.graderSongEnded).resetUnit = s.resetUnit := by
  simp [State.graderSongEnded]

@[simp] theorem graderDiscard_pending (s : State) : (s.graderDiscard).pending = s.pending := by
  simp [State.graderDiscard]
@[simp] theorem graderDiscard_room (s : State) : (s.graderDiscard).room = s.room := by
  simp [State.graderDiscard]
@[simp] theorem graderDiscard_panelA (s : State) : (s.graderDiscard).panelA = s.panelA := by
  simp [State.graderDiscard]
@[simp] theorem graderDiscard_panelB (s : State) : (s.graderDiscard).panelB = s.panelB := by
  simp [State.graderDiscard]
@[simp] theorem graderDiscard_store (s : State) : (s.graderDiscard).store = s.store := by
  simp [State.graderDiscard]
@[simp] theorem graderDiscard_deck (s : State) : (s.graderDiscard).deck = s.deck := by
  simp [State.graderDiscard]
@[simp] theorem graderDiscard_lyric (s : State) : (s.graderDiscard).lyric = s.lyric := by
  simp [State.graderDiscard]
@[simp] theorem graderDiscard_front (s : State) : (s.graderDiscard).front = s.front := by
  simp [State.graderDiscard]
@[simp] theorem graderDiscard_results (s : State) : (s.graderDiscard).results = s.results := by
  simp [State.graderDiscard]
@[simp] theorem graderDiscard_port (s : State) : (s.graderDiscard).port = s.port := by
  simp [State.graderDiscard]
@[simp] theorem graderDiscard_desk (s : State) : (s.graderDiscard).desk = s.desk := by
  simp [State.graderDiscard]
@[simp] theorem graderDiscard_resetUnit (s : State) : (s.graderDiscard).resetUnit = s.resetUnit := by
  simp [State.graderDiscard]

@[simp] theorem startEntry_pending (s : State) (e : Entry) (rest : List Entry) : (s.startEntry e rest).pending = s.pending := by
  simp [State.startEntry]
@[simp] theorem startEntry_panelA (s : State) (e : Entry) (rest : List Entry) : (s.startEntry e rest).panelA = s.panelA := by
  simp [State.startEntry]
@[simp] theorem startEntry_panelB (s : State) (e : Entry) (rest : List Entry) : (s.startEntry e rest).panelB = s.panelB := by
  simp [State.startEntry]
@[simp] theorem startEntry_front (s : State) (e : Entry) (rest : List Entry) : (s.startEntry e rest).front = s.front := by
  simp [State.startEntry]
@[simp] theorem startEntry_results (s : State) (e : Entry) (rest : List Entry) : (s.startEntry e rest).results = s.results := by
  simp [State.startEntry]
@[simp] theorem startEntry_port (s : State) (e : Entry) (rest : List Entry) : (s.startEntry e rest).port = s.port := by
  simp [State.startEntry]
@[simp] theorem startEntry_resetUnit (s : State) (e : Entry) (rest : List Entry) : (s.startEntry e rest).resetUnit = s.resetUnit := by
  simp [State.startEntry]

@[simp] theorem start_pending (s : State) : (s.start).pending = s.pending := by
  unfold State.start; (repeat' split) <;> simp
@[simp] theorem start_panelA (s : State) : (s.start).panelA = s.panelA := by
  unfold State.start; (repeat' split) <;> simp
@[simp] theorem start_panelB (s : State) : (s.start).panelB = s.panelB := by
  unfold State.start; (repeat' split) <;> simp
@[simp] theorem start_front (s : State) : (s.start).front = s.front := by
  unfold State.start; (repeat' split) <;> simp
@[simp] theorem start_results (s : State) : (s.start).results = s.results := by
  unfold State.start; (repeat' split) <;> simp
@[simp] theorem start_port (s : State) : (s.start).port = s.port := by
  unfold State.start; (repeat' split) <;> simp
@[simp] theorem start_resetUnit (s : State) : (s.start).resetUnit = s.resetUnit := by
  unfold State.start; (repeat' split) <;> simp

@[simp] theorem noteShortage_pending (s : State) : (s.noteShortage).pending = s.pending := by
  unfold State.noteShortage; (repeat' split) <;> simp
@[simp] theorem noteShortage_panelA (s : State) : (s.noteShortage).panelA = s.panelA := by
  unfold State.noteShortage; (repeat' split) <;> simp
@[simp] theorem noteShortage_panelB (s : State) : (s.noteShortage).panelB = s.panelB := by
  unfold State.noteShortage; (repeat' split) <;> simp
@[simp] theorem noteShortage_store (s : State) : (s.noteShortage).store = s.store := by
  unfold State.noteShortage; (repeat' split) <;> simp
@[simp] theorem noteShortage_deck (s : State) : (s.noteShortage).deck = s.deck := by
  unfold State.noteShortage; (repeat' split) <;> simp
@[simp] theorem noteShortage_lyric (s : State) : (s.noteShortage).lyric = s.lyric := by
  unfold State.noteShortage; (repeat' split) <;> simp
@[simp] theorem noteShortage_front (s : State) : (s.noteShortage).front = s.front := by
  unfold State.noteShortage; (repeat' split) <;> simp
@[simp] theorem noteShortage_grader (s : State) : (s.noteShortage).grader = s.grader := by
  unfold State.noteShortage; (repeat' split) <;> simp
@[simp] theorem noteShortage_results (s : State) : (s.noteShortage).results = s.results := by
  unfold State.noteShortage; (repeat' split) <;> simp
@[simp] theorem noteShortage_port (s : State) : (s.noteShortage).port = s.port := by
  unfold State.noteShortage; (repeat' split) <;> simp
@[simp] theorem noteShortage_resetUnit (s : State) : (s.noteShortage).resetUnit = s.resetUnit := by
  unfold State.noteShortage; (repeat' split) <;> simp

@[simp] theorem reexamine_pending (s : State) : (s.reexamine).pending = s.pending := by
  unfold State.reexamine; (repeat' split) <;> simp
@[simp] theorem reexamine_panelA (s : State) : (s.reexamine).panelA = s.panelA := by
  unfold State.reexamine; (repeat' split) <;> simp
@[simp] theorem reexamine_panelB (s : State) : (s.reexamine).panelB = s.panelB := by
  unfold State.reexamine; (repeat' split) <;> simp
@[simp] theorem reexamine_front (s : State) : (s.reexamine).front = s.front := by
  unfold State.reexamine; (repeat' split) <;> simp
@[simp] theorem reexamine_results (s : State) : (s.reexamine).results = s.results := by
  unfold State.reexamine; (repeat' split) <;> simp
@[simp] theorem reexamine_port (s : State) : (s.reexamine).port = s.port := by
  unfold State.reexamine; (repeat' split) <;> simp
@[simp] theorem reexamine_resetUnit (s : State) : (s.reexamine).resetUnit = s.resetUnit := by
  unfold State.reexamine; (repeat' split) <;> simp

@[simp] theorem reexamineEvent_pending (s : State) : (s.reexamineEvent).pending = s.pending := by
  unfold State.reexamineEvent; (repeat' split) <;> simp
@[simp] theorem reexamineEvent_panelA (s : State) : (s.reexamineEvent).panelA = s.panelA := by
  unfold State.reexamineEvent; (repeat' split) <;> simp
@[simp] theorem reexamineEvent_panelB (s : State) : (s.reexamineEvent).panelB = s.panelB := by
  unfold State.reexamineEvent; (repeat' split) <;> simp
@[simp] theorem reexamineEvent_front (s : State) : (s.reexamineEvent).front = s.front := by
  unfold State.reexamineEvent; (repeat' split) <;> simp
@[simp] theorem reexamineEvent_results (s : State) : (s.reexamineEvent).results = s.results := by
  unfold State.reexamineEvent; (repeat' split) <;> simp
@[simp] theorem reexamineEvent_resetUnit (s : State) : (s.reexamineEvent).resetUnit = s.resetUnit := by
  unfold State.reexamineEvent; (repeat' split) <;> simp

@[simp] theorem headEvent_pending (s : State) (before : Option Nat) : (s.headEvent before).pending = s.pending := by
  unfold State.headEvent; (repeat' split) <;> simp
@[simp] theorem headEvent_panelA (s : State) (before : Option Nat) : (s.headEvent before).panelA = s.panelA := by
  unfold State.headEvent; (repeat' split) <;> simp
@[simp] theorem headEvent_panelB (s : State) (before : Option Nat) : (s.headEvent before).panelB = s.panelB := by
  unfold State.headEvent; (repeat' split) <;> simp
@[simp] theorem headEvent_front (s : State) (before : Option Nat) : (s.headEvent before).front = s.front := by
  unfold State.headEvent; (repeat' split) <;> simp
@[simp] theorem headEvent_results (s : State) (before : Option Nat) : (s.headEvent before).results = s.results := by
  unfold State.headEvent; (repeat' split) <;> simp
@[simp] theorem headEvent_resetUnit (s : State) (before : Option Nat) : (s.headEvent before).resetUnit = s.resetUnit := by
  unfold State.headEvent; (repeat' split) <;> simp

@[simp] theorem queueEvent_pending (s : State) (q : RoomQueue) : (s.queueEvent q).pending = s.pending := by
  simp [State.queueEvent]
@[simp] theorem queueEvent_panelA (s : State) (q : RoomQueue) : (s.queueEvent q).panelA = s.panelA := by
  simp [State.queueEvent]
@[simp] theorem queueEvent_panelB (s : State) (q : RoomQueue) : (s.queueEvent q).panelB = s.panelB := by
  simp [State.queueEvent]
@[simp] theorem queueEvent_front (s : State) (q : RoomQueue) : (s.queueEvent q).front = s.front := by
  simp [State.queueEvent]
@[simp] theorem queueEvent_results (s : State) (q : RoomQueue) : (s.queueEvent q).results = s.results := by
  simp [State.queueEvent]
@[simp] theorem queueEvent_resetUnit (s : State) (q : RoomQueue) : (s.queueEvent q).resetUnit = s.resetUnit := by
  simp [State.queueEvent]

@[simp] theorem accountEvent_pending (s : State) (q : RoomQueue) : (s.accountEvent q).pending = s.pending := by
  unfold State.accountEvent; (repeat' split) <;> simp
@[simp] theorem accountEvent_panelA (s : State) (q : RoomQueue) : (s.accountEvent q).panelA = s.panelA := by
  unfold State.accountEvent; (repeat' split) <;> simp
@[simp] theorem accountEvent_panelB (s : State) (q : RoomQueue) : (s.accountEvent q).panelB = s.panelB := by
  unfold State.accountEvent; (repeat' split) <;> simp
@[simp] theorem accountEvent_front (s : State) (q : RoomQueue) : (s.accountEvent q).front = s.front := by
  unfold State.accountEvent; (repeat' split) <;> simp
@[simp] theorem accountEvent_results (s : State) (q : RoomQueue) : (s.accountEvent q).results = s.results := by
  unfold State.accountEvent; (repeat' split) <;> simp
@[simp] theorem accountEvent_resetUnit (s : State) (q : RoomQueue) : (s.accountEvent q).resetUnit = s.resetUnit := by
  unfold State.accountEvent; (repeat' split) <;> simp

@[simp] theorem lockRoom_pending (s : State) : (s.lockRoom).pending = s.pending := by
  simp [State.lockRoom]
@[simp] theorem lockRoom_panelA (s : State) : (s.lockRoom).panelA = s.panelA := by
  simp [State.lockRoom]
@[simp] theorem lockRoom_panelB (s : State) : (s.lockRoom).panelB = s.panelB := by
  simp [State.lockRoom]
@[simp] theorem lockRoom_store (s : State) : (s.lockRoom).store = s.store := by
  simp [State.lockRoom]
@[simp] theorem lockRoom_deck (s : State) : (s.lockRoom).deck = s.deck := by
  simp [State.lockRoom]
@[simp] theorem lockRoom_lyric (s : State) : (s.lockRoom).lyric = s.lyric := by
  simp [State.lockRoom]
@[simp] theorem lockRoom_front (s : State) : (s.lockRoom).front = s.front := by
  simp [State.lockRoom]
@[simp] theorem lockRoom_grader (s : State) : (s.lockRoom).grader = s.grader := by
  simp [State.lockRoom]
@[simp] theorem lockRoom_results (s : State) : (s.lockRoom).results = s.results := by
  simp [State.lockRoom]
@[simp] theorem lockRoom_port (s : State) : (s.lockRoom).port = s.port := by
  simp [State.lockRoom]
@[simp] theorem lockRoom_desk (s : State) : (s.lockRoom).desk = s.desk := by
  simp [State.lockRoom]
@[simp] theorem lockRoom_resetUnit (s : State) : (s.lockRoom).resetUnit = s.resetUnit := by
  simp [State.lockRoom]

@[simp] theorem unlockRoom_pending (s : State) : (s.unlockRoom).pending = s.pending := by
  simp [State.unlockRoom]
@[simp] theorem unlockRoom_panelA (s : State) : (s.unlockRoom).panelA = s.panelA := by
  simp [State.unlockRoom]
@[simp] theorem unlockRoom_panelB (s : State) : (s.unlockRoom).panelB = s.panelB := by
  simp [State.unlockRoom]
@[simp] theorem unlockRoom_front (s : State) : (s.unlockRoom).front = s.front := by
  simp [State.unlockRoom]
@[simp] theorem unlockRoom_results (s : State) : (s.unlockRoom).results = s.results := by
  simp [State.unlockRoom]
@[simp] theorem unlockRoom_resetUnit (s : State) : (s.unlockRoom).resetUnit = s.resetUnit := by
  simp [State.unlockRoom]

@[simp] theorem addRecord_pending (s : State) (r : HistoryRecord) : (s.addRecord r).pending = s.pending := by
  unfold State.addRecord; (repeat' split) <;> simp
@[simp] theorem addRecord_room (s : State) (r : HistoryRecord) : (s.addRecord r).room = s.room := by
  unfold State.addRecord; (repeat' split) <;> simp
@[simp] theorem addRecord_panelA (s : State) (r : HistoryRecord) : (s.addRecord r).panelA = s.panelA := by
  unfold State.addRecord; (repeat' split) <;> simp
@[simp] theorem addRecord_panelB (s : State) (r : HistoryRecord) : (s.addRecord r).panelB = s.panelB := by
  unfold State.addRecord; (repeat' split) <;> simp
@[simp] theorem addRecord_store (s : State) (r : HistoryRecord) : (s.addRecord r).store = s.store := by
  unfold State.addRecord; (repeat' split) <;> simp
@[simp] theorem addRecord_deck (s : State) (r : HistoryRecord) : (s.addRecord r).deck = s.deck := by
  unfold State.addRecord; (repeat' split) <;> simp
@[simp] theorem addRecord_lyric (s : State) (r : HistoryRecord) : (s.addRecord r).lyric = s.lyric := by
  unfold State.addRecord; (repeat' split) <;> simp
@[simp] theorem addRecord_front (s : State) (r : HistoryRecord) : (s.addRecord r).front = s.front := by
  unfold State.addRecord; (repeat' split) <;> simp
@[simp] theorem addRecord_grader (s : State) (r : HistoryRecord) : (s.addRecord r).grader = s.grader := by
  unfold State.addRecord; (repeat' split) <;> simp
@[simp] theorem addRecord_port (s : State) (r : HistoryRecord) : (s.addRecord r).port = s.port := by
  unfold State.addRecord; (repeat' split) <;> simp
@[simp] theorem addRecord_resetUnit (s : State) (r : HistoryRecord) : (s.addRecord r).resetUnit = s.resetUnit := by
  unfold State.addRecord; (repeat' split) <;> simp

@[simp] theorem finalise_pending (s : State) (o : SongOutcome) (t : Nat) : (s.finalise o t).pending = s.pending := by
  unfold State.finalise; (repeat' split) <;> simp
@[simp] theorem finalise_room (s : State) (o : SongOutcome) (t : Nat) : (s.finalise o t).room = s.room := by
  unfold State.finalise; (repeat' split) <;> simp
@[simp] theorem finalise_panelA (s : State) (o : SongOutcome) (t : Nat) : (s.finalise o t).panelA = s.panelA := by
  unfold State.finalise; (repeat' split) <;> simp
@[simp] theorem finalise_panelB (s : State) (o : SongOutcome) (t : Nat) : (s.finalise o t).panelB = s.panelB := by
  unfold State.finalise; (repeat' split) <;> simp
@[simp] theorem finalise_store (s : State) (o : SongOutcome) (t : Nat) : (s.finalise o t).store = s.store := by
  unfold State.finalise; (repeat' split) <;> simp
@[simp] theorem finalise_lyric (s : State) (o : SongOutcome) (t : Nat) : (s.finalise o t).lyric = s.lyric := by
  unfold State.finalise; (repeat' split) <;> simp
@[simp] theorem finalise_front (s : State) (o : SongOutcome) (t : Nat) : (s.finalise o t).front = s.front := by
  unfold State.finalise; (repeat' split) <;> simp
@[simp] theorem finalise_port (s : State) (o : SongOutcome) (t : Nat) : (s.finalise o t).port = s.port := by
  unfold State.finalise; (repeat' split) <;> simp
@[simp] theorem finalise_resetUnit (s : State) (o : SongOutcome) (t : Nat) : (s.finalise o t).resetUnit = s.resetUnit := by
  unfold State.finalise; (repeat' split) <;> simp

@[simp] theorem idleEvent_pending (s : State) : (s.idleEvent).pending = s.pending := by
  simp [State.idleEvent]
@[simp] theorem idleEvent_panelA (s : State) : (s.idleEvent).panelA = s.panelA := by
  simp [State.idleEvent]
@[simp] theorem idleEvent_panelB (s : State) : (s.idleEvent).panelB = s.panelB := by
  simp [State.idleEvent]
@[simp] theorem idleEvent_front (s : State) : (s.idleEvent).front = s.front := by
  simp [State.idleEvent]
@[simp] theorem idleEvent_results (s : State) : (s.idleEvent).results = s.results := by
  simp [State.idleEvent]
@[simp] theorem idleEvent_resetUnit (s : State) : (s.idleEvent).resetUnit = s.resetUnit := by
  simp [State.idleEvent]

@[simp] theorem endSong_pending (s : State) (o : SongOutcome) : (s.endSong o).pending = s.pending := by
  simp [State.endSong]
@[simp] theorem endSong_room (s : State) (o : SongOutcome) : (s.endSong o).room = s.room := by
  simp [State.endSong]
@[simp] theorem endSong_panelA (s : State) (o : SongOutcome) : (s.endSong o).panelA = s.panelA := by
  simp [State.endSong]
@[simp] theorem endSong_panelB (s : State) (o : SongOutcome) : (s.endSong o).panelB = s.panelB := by
  simp [State.endSong]
@[simp] theorem endSong_store (s : State) (o : SongOutcome) : (s.endSong o).store = s.store := by
  simp [State.endSong]
@[simp] theorem endSong_lyric (s : State) (o : SongOutcome) : (s.endSong o).lyric = s.lyric := by
  simp [State.endSong]
@[simp] theorem endSong_front (s : State) (o : SongOutcome) : (s.endSong o).front = s.front := by
  simp [State.endSong]
@[simp] theorem endSong_port (s : State) (o : SongOutcome) : (s.endSong o).port = s.port := by
  simp [State.endSong]
@[simp] theorem endSong_resetUnit (s : State) (o : SongOutcome) : (s.endSong o).resetUnit = s.resetUnit := by
  simp [State.endSong]

@[simp] theorem clearDeck_pending (s : State) : (s.clearDeck).pending = s.pending := by
  unfold State.clearDeck; (repeat' split) <;> simp
@[simp] theorem clearDeck_room (s : State) : (s.clearDeck).room = s.room := by
  unfold State.clearDeck; (repeat' split) <;> simp
@[simp] theorem clearDeck_panelA (s : State) : (s.clearDeck).panelA = s.panelA := by
  unfold State.clearDeck; (repeat' split) <;> simp
@[simp] theorem clearDeck_panelB (s : State) : (s.clearDeck).panelB = s.panelB := by
  unfold State.clearDeck; (repeat' split) <;> simp
@[simp] theorem clearDeck_store (s : State) : (s.clearDeck).store = s.store := by
  unfold State.clearDeck; (repeat' split) <;> simp
@[simp] theorem clearDeck_front (s : State) : (s.clearDeck).front = s.front := by
  unfold State.clearDeck; (repeat' split) <;> simp
@[simp] theorem clearDeck_results (s : State) : (s.clearDeck).results = s.results := by
  unfold State.clearDeck; (repeat' split) <;> simp
@[simp] theorem clearDeck_port (s : State) : (s.clearDeck).port = s.port := by
  unfold State.clearDeck; (repeat' split) <;> simp
@[simp] theorem clearDeck_desk (s : State) : (s.clearDeck).desk = s.desk := by
  unfold State.clearDeck; (repeat' split) <;> simp
@[simp] theorem clearDeck_resetUnit (s : State) : (s.clearDeck).resetUnit = s.resetUnit := by
  unfold State.clearDeck; (repeat' split) <;> simp

@[simp] theorem roomClearEvent_pending (s : State) : (s.roomClearEvent).pending = s.pending := by
  simp [State.roomClearEvent]
@[simp] theorem roomClearEvent_panelA (s : State) : (s.roomClearEvent).panelA = s.panelA := by
  simp [State.roomClearEvent]
@[simp] theorem roomClearEvent_panelB (s : State) : (s.roomClearEvent).panelB = s.panelB := by
  simp [State.roomClearEvent]
@[simp] theorem roomClearEvent_front (s : State) : (s.roomClearEvent).front = s.front := by
  simp [State.roomClearEvent]
@[simp] theorem roomClearEvent_resetUnit (s : State) : (s.roomClearEvent).resetUnit = s.resetUnit := by
  simp [State.roomClearEvent]

@[simp] theorem leaveStandby_pending (s : State) : (s.leaveStandby).pending = s.pending := by
  simp [State.leaveStandby]
@[simp] theorem leaveStandby_panelA (s : State) : (s.leaveStandby).panelA = s.panelA := by
  simp [State.leaveStandby]
@[simp] theorem leaveStandby_panelB (s : State) : (s.leaveStandby).panelB = s.panelB := by
  simp [State.leaveStandby]
@[simp] theorem leaveStandby_results (s : State) : (s.leaveStandby).results = s.results := by
  simp [State.leaveStandby]
@[simp] theorem leaveStandby_resetUnit (s : State) : (s.leaveStandby).resetUnit = s.resetUnit := by
  simp [State.leaveStandby]

@[simp] theorem routeSample_pending (s : State) (m : Mic) (p : Nat) : (s.routeSample m p).pending = s.pending := by
  unfold State.routeSample; (repeat' split) <;> simp
@[simp] theorem routeSample_room (s : State) (m : Mic) (p : Nat) : (s.routeSample m p).room = s.room := by
  unfold State.routeSample; (repeat' split) <;> simp
@[simp] theorem routeSample_panelA (s : State) (m : Mic) (p : Nat) : (s.routeSample m p).panelA = s.panelA := by
  unfold State.routeSample; (repeat' split) <;> simp
@[simp] theorem routeSample_panelB (s : State) (m : Mic) (p : Nat) : (s.routeSample m p).panelB = s.panelB := by
  unfold State.routeSample; (repeat' split) <;> simp
@[simp] theorem routeSample_store (s : State) (m : Mic) (p : Nat) : (s.routeSample m p).store = s.store := by
  unfold State.routeSample; (repeat' split) <;> simp
@[simp] theorem routeSample_deck (s : State) (m : Mic) (p : Nat) : (s.routeSample m p).deck = s.deck := by
  unfold State.routeSample; (repeat' split) <;> simp
@[simp] theorem routeSample_lyric (s : State) (m : Mic) (p : Nat) : (s.routeSample m p).lyric = s.lyric := by
  unfold State.routeSample; (repeat' split) <;> simp
@[simp] theorem routeSample_front (s : State) (m : Mic) (p : Nat) : (s.routeSample m p).front = s.front := by
  unfold State.routeSample; (repeat' split) <;> simp
@[simp] theorem routeSample_results (s : State) (m : Mic) (p : Nat) : (s.routeSample m p).results = s.results := by
  unfold State.routeSample; (repeat' split) <;> simp
@[simp] theorem routeSample_port (s : State) (m : Mic) (p : Nat) : (s.routeSample m p).port = s.port := by
  unfold State.routeSample; (repeat' split) <;> simp
@[simp] theorem routeSample_desk (s : State) (m : Mic) (p : Nat) : (s.routeSample m p).desk = s.desk := by
  unfold State.routeSample; (repeat' split) <;> simp
@[simp] theorem routeSample_resetUnit (s : State) (m : Mic) (p : Nat) : (s.routeSample m p).resetUnit = s.resetUnit := by
  unfold State.routeSample; (repeat' split) <;> simp

/-! ### The requests each block takes -/

@[simp] theorem stagingAnswer_pending (s : State) (c : ResultCode) : (s.stagingAnswer c).1.pending = s.pending := by
  simp [State.stagingAnswer]
@[simp] theorem stagingAnswer_room (s : State) (c : ResultCode) : (s.stagingAnswer c).1.room = s.room := by
  simp [State.stagingAnswer]
@[simp] theorem stagingAnswer_panelA (s : State) (c : ResultCode) : (s.stagingAnswer c).1.panelA = s.panelA := by
  simp [State.stagingAnswer]
@[simp] theorem stagingAnswer_panelB (s : State) (c : ResultCode) : (s.stagingAnswer c).1.panelB = s.panelB := by
  simp [State.stagingAnswer]
@[simp] theorem stagingAnswer_store (s : State) (c : ResultCode) : (s.stagingAnswer c).1.store = s.store := by
  simp [State.stagingAnswer]
@[simp] theorem stagingAnswer_deck (s : State) (c : ResultCode) : (s.stagingAnswer c).1.deck = s.deck := by
  simp [State.stagingAnswer]
@[simp] theorem stagingAnswer_lyric (s : State) (c : ResultCode) : (s.stagingAnswer c).1.lyric = s.lyric := by
  simp [State.stagingAnswer]
@[simp] theorem stagingAnswer_front (s : State) (c : ResultCode) : (s.stagingAnswer c).1.front = s.front := by
  simp [State.stagingAnswer]
@[simp] theorem stagingAnswer_grader (s : State) (c : ResultCode) : (s.stagingAnswer c).1.grader = s.grader := by
  simp [State.stagingAnswer]
@[simp] theorem stagingAnswer_results (s : State) (c : ResultCode) : (s.stagingAnswer c).1.results = s.results := by
  simp [State.stagingAnswer]
@[simp] theorem stagingAnswer_port (s : State) (c : ResultCode) : (s.stagingAnswer c).1.port = s.port := by
  simp [State.stagingAnswer]
@[simp] theorem stagingAnswer_desk (s : State) (c : ResultCode) : (s.stagingAnswer c).1.desk = s.desk := by
  simp [State.stagingAnswer]
@[simp] theorem stagingAnswer_resetUnit (s : State) (c : ResultCode) : (s.stagingAnswer c).1.resetUnit = s.resetUnit := by
  simp [State.stagingAnswer]

@[simp] theorem submit_pending (s : State) (o : Origin) (b : Bool) (r : SongRequest) : (s.submit o b r).1.pending = s.pending := by
  unfold State.submit; (repeat' split) <;> simp
@[simp] theorem submit_panelA (s : State) (o : Origin) (b : Bool) (r : SongRequest) : (s.submit o b r).1.panelA = s.panelA := by
  unfold State.submit; (repeat' split) <;> simp
@[simp] theorem submit_panelB (s : State) (o : Origin) (b : Bool) (r : SongRequest) : (s.submit o b r).1.panelB = s.panelB := by
  unfold State.submit; (repeat' split) <;> simp
@[simp] theorem submit_front (s : State) (o : Origin) (b : Bool) (r : SongRequest) : (s.submit o b r).1.front = s.front := by
  unfold State.submit; (repeat' split) <;> simp
@[simp] theorem submit_results (s : State) (o : Origin) (b : Bool) (r : SongRequest) : (s.submit o b r).1.results = s.results := by
  unfold State.submit; (repeat' split) <;> simp
@[simp] theorem submit_resetUnit (s : State) (o : Origin) (b : Bool) (r : SongRequest) : (s.submit o b r).1.resetUnit = s.resetUnit := by
  unfold State.submit; (repeat' split) <;> simp

@[simp] theorem cancel_pending (s : State) (o : Origin) (i : Nat) : (s.cancel o i).1.pending = s.pending := by
  unfold State.cancel; (repeat' split) <;> simp
@[simp] theorem cancel_panelA (s : State) (o : Origin) (i : Nat) : (s.cancel o i).1.panelA = s.panelA := by
  unfold State.cancel; (repeat' split) <;> simp
@[simp] theorem cancel_panelB (s : State) (o : Origin) (i : Nat) : (s.cancel o i).1.panelB = s.panelB := by
  unfold State.cancel; (repeat' split) <;> simp
@[simp] theorem cancel_front (s : State) (o : Origin) (i : Nat) : (s.cancel o i).1.front = s.front := by
  unfold State.cancel; (repeat' split) <;> simp
@[simp] theorem cancel_results (s : State) (o : Origin) (i : Nat) : (s.cancel o i).1.results = s.results := by
  unfold State.cancel; (repeat' split) <;> simp
@[simp] theorem cancel_resetUnit (s : State) (o : Origin) (i : Nat) : (s.cancel o i).1.resetUnit = s.resetUnit := by
  unfold State.cancel; (repeat' split) <;> simp

@[simp] theorem moveEntry_pending (s : State) (e : Entry) (i : Nat) : (s.moveEntry e i).1.pending = s.pending := by
  unfold State.moveEntry; dsimp only; split <;> simp
@[simp] theorem moveEntry_panelA (s : State) (e : Entry) (i : Nat) : (s.moveEntry e i).1.panelA = s.panelA := by
  unfold State.moveEntry; dsimp only; split <;> simp
@[simp] theorem moveEntry_panelB (s : State) (e : Entry) (i : Nat) : (s.moveEntry e i).1.panelB = s.panelB := by
  unfold State.moveEntry; dsimp only; split <;> simp
@[simp] theorem moveEntry_front (s : State) (e : Entry) (i : Nat) : (s.moveEntry e i).1.front = s.front := by
  unfold State.moveEntry; dsimp only; split <;> simp
@[simp] theorem moveEntry_results (s : State) (e : Entry) (i : Nat) : (s.moveEntry e i).1.results = s.results := by
  unfold State.moveEntry; dsimp only; split <;> simp
@[simp] theorem moveEntry_resetUnit (s : State) (e : Entry) (i : Nat) : (s.moveEntry e i).1.resetUnit = s.resetUnit := by
  unfold State.moveEntry; dsimp only; split <;> simp

@[simp] theorem panelMove_pending (s : State) (o : Origin) (i k : Nat) : (s.panelMove o i k).1.pending = s.pending := by
  unfold State.panelMove; (repeat' split) <;> simp
@[simp] theorem panelMove_panelA (s : State) (o : Origin) (i k : Nat) : (s.panelMove o i k).1.panelA = s.panelA := by
  unfold State.panelMove; (repeat' split) <;> simp
@[simp] theorem panelMove_panelB (s : State) (o : Origin) (i k : Nat) : (s.panelMove o i k).1.panelB = s.panelB := by
  unfold State.panelMove; (repeat' split) <;> simp
@[simp] theorem panelMove_front (s : State) (o : Origin) (i k : Nat) : (s.panelMove o i k).1.front = s.front := by
  unfold State.panelMove; (repeat' split) <;> simp
@[simp] theorem panelMove_results (s : State) (o : Origin) (i k : Nat) : (s.panelMove o i k).1.results = s.results := by
  unfold State.panelMove; (repeat' split) <;> simp
@[simp] theorem panelMove_resetUnit (s : State) (o : Origin) (i k : Nat) : (s.panelMove o i k).1.resetUnit = s.resetUnit := by
  unfold State.panelMove; (repeat' split) <;> simp

@[simp] theorem deskMove_pending (s : State) (i k : Nat) : (s.deskMove i k).1.pending = s.pending := by
  unfold State.deskMove; (repeat' split) <;> simp
@[simp] theorem deskMove_panelA (s : State) (i k : Nat) : (s.deskMove i k).1.panelA = s.panelA := by
  unfold State.deskMove; (repeat' split) <;> simp
@[simp] theorem deskMove_panelB (s : State) (i k : Nat) : (s.deskMove i k).1.panelB = s.panelB := by
  unfold State.deskMove; (repeat' split) <;> simp
@[simp] theorem deskMove_front (s : State) (i k : Nat) : (s.deskMove i k).1.front = s.front := by
  unfold State.deskMove; (repeat' split) <;> simp
@[simp] theorem deskMove_results (s : State) (i k : Nat) : (s.deskMove i k).1.results = s.results := by
  unfold State.deskMove; (repeat' split) <;> simp
@[simp] theorem deskMove_resetUnit (s : State) (i k : Nat) : (s.deskMove i k).1.resetUnit = s.resetUnit := by
  unfold State.deskMove; (repeat' split) <;> simp

@[simp] theorem promoteId_pending (s : State) (i : Nat) : (s.promoteId i).1.pending = s.pending := by
  unfold State.promoteId; (repeat' split) <;> simp
@[simp] theorem promoteId_panelA (s : State) (i : Nat) : (s.promoteId i).1.panelA = s.panelA := by
  unfold State.promoteId; (repeat' split) <;> simp
@[simp] theorem promoteId_panelB (s : State) (i : Nat) : (s.promoteId i).1.panelB = s.panelB := by
  unfold State.promoteId; (repeat' split) <;> simp
@[simp] theorem promoteId_front (s : State) (i : Nat) : (s.promoteId i).1.front = s.front := by
  unfold State.promoteId; (repeat' split) <;> simp
@[simp] theorem promoteId_results (s : State) (i : Nat) : (s.promoteId i).1.results = s.results := by
  unfold State.promoteId; (repeat' split) <;> simp
@[simp] theorem promoteId_resetUnit (s : State) (i : Nat) : (s.promoteId i).1.resetUnit = s.resetUnit := by
  unfold State.promoteId; (repeat' split) <;> simp

@[simp] theorem removeId_pending (s : State) (i : Nat) : (s.removeId i).1.pending = s.pending := by
  unfold State.removeId; (repeat' split) <;> simp
@[simp] theorem removeId_panelA (s : State) (i : Nat) : (s.removeId i).1.panelA = s.panelA := by
  unfold State.removeId; (repeat' split) <;> simp
@[simp] theorem removeId_panelB (s : State) (i : Nat) : (s.removeId i).1.panelB = s.panelB := by
  unfold State.removeId; (repeat' split) <;> simp
@[simp] theorem removeId_front (s : State) (i : Nat) : (s.removeId i).1.front = s.front := by
  unfold State.removeId; (repeat' split) <;> simp
@[simp] theorem removeId_results (s : State) (i : Nat) : (s.removeId i).1.results = s.results := by
  unfold State.removeId; (repeat' split) <;> simp
@[simp] theorem removeId_resetUnit (s : State) (i : Nat) : (s.removeId i).1.resetUnit = s.resetUnit := by
  unfold State.removeId; (repeat' split) <;> simp

@[simp] theorem stageOpenEvent_pending (s : State) (h : BankHeader) : (s.stageOpenEvent h).1.pending = s.pending := by
  unfold State.stageOpenEvent; (repeat' split) <;> simp
@[simp] theorem stageOpenEvent_room (s : State) (h : BankHeader) : (s.stageOpenEvent h).1.room = s.room := by
  unfold State.stageOpenEvent; (repeat' split) <;> simp
@[simp] theorem stageOpenEvent_panelA (s : State) (h : BankHeader) : (s.stageOpenEvent h).1.panelA = s.panelA := by
  unfold State.stageOpenEvent; (repeat' split) <;> simp
@[simp] theorem stageOpenEvent_panelB (s : State) (h : BankHeader) : (s.stageOpenEvent h).1.panelB = s.panelB := by
  unfold State.stageOpenEvent; (repeat' split) <;> simp
@[simp] theorem stageOpenEvent_deck (s : State) (h : BankHeader) : (s.stageOpenEvent h).1.deck = s.deck := by
  unfold State.stageOpenEvent; (repeat' split) <;> simp
@[simp] theorem stageOpenEvent_lyric (s : State) (h : BankHeader) : (s.stageOpenEvent h).1.lyric = s.lyric := by
  unfold State.stageOpenEvent; (repeat' split) <;> simp
@[simp] theorem stageOpenEvent_front (s : State) (h : BankHeader) : (s.stageOpenEvent h).1.front = s.front := by
  unfold State.stageOpenEvent; (repeat' split) <;> simp
@[simp] theorem stageOpenEvent_grader (s : State) (h : BankHeader) : (s.stageOpenEvent h).1.grader = s.grader := by
  unfold State.stageOpenEvent; (repeat' split) <;> simp
@[simp] theorem stageOpenEvent_results (s : State) (h : BankHeader) : (s.stageOpenEvent h).1.results = s.results := by
  unfold State.stageOpenEvent; (repeat' split) <;> simp
@[simp] theorem stageOpenEvent_desk (s : State) (h : BankHeader) : (s.stageOpenEvent h).1.desk = s.desk := by
  unfold State.stageOpenEvent; (repeat' split) <;> simp
@[simp] theorem stageOpenEvent_resetUnit (s : State) (h : BankHeader) : (s.stageOpenEvent h).1.resetUnit = s.resetUnit := by
  unfold State.stageOpenEvent; (repeat' split) <;> simp

@[simp] theorem stageLineEvent_pending (s : State) (l : LineFields) : (s.stageLineEvent l).1.pending = s.pending := by
  unfold State.stageLineEvent; (repeat' split) <;> simp
@[simp] theorem stageLineEvent_room (s : State) (l : LineFields) : (s.stageLineEvent l).1.room = s.room := by
  unfold State.stageLineEvent; (repeat' split) <;> simp
@[simp] theorem stageLineEvent_panelA (s : State) (l : LineFields) : (s.stageLineEvent l).1.panelA = s.panelA := by
  unfold State.stageLineEvent; (repeat' split) <;> simp
@[simp] theorem stageLineEvent_panelB (s : State) (l : LineFields) : (s.stageLineEvent l).1.panelB = s.panelB := by
  unfold State.stageLineEvent; (repeat' split) <;> simp
@[simp] theorem stageLineEvent_deck (s : State) (l : LineFields) : (s.stageLineEvent l).1.deck = s.deck := by
  unfold State.stageLineEvent; (repeat' split) <;> simp
@[simp] theorem stageLineEvent_lyric (s : State) (l : LineFields) : (s.stageLineEvent l).1.lyric = s.lyric := by
  unfold State.stageLineEvent; (repeat' split) <;> simp
@[simp] theorem stageLineEvent_front (s : State) (l : LineFields) : (s.stageLineEvent l).1.front = s.front := by
  unfold State.stageLineEvent; (repeat' split) <;> simp
@[simp] theorem stageLineEvent_grader (s : State) (l : LineFields) : (s.stageLineEvent l).1.grader = s.grader := by
  unfold State.stageLineEvent; (repeat' split) <;> simp
@[simp] theorem stageLineEvent_results (s : State) (l : LineFields) : (s.stageLineEvent l).1.results = s.results := by
  unfold State.stageLineEvent; (repeat' split) <;> simp
@[simp] theorem stageLineEvent_port (s : State) (l : LineFields) : (s.stageLineEvent l).1.port = s.port := by
  unfold State.stageLineEvent; (repeat' split) <;> simp
@[simp] theorem stageLineEvent_desk (s : State) (l : LineFields) : (s.stageLineEvent l).1.desk = s.desk := by
  unfold State.stageLineEvent; (repeat' split) <;> simp
@[simp] theorem stageLineEvent_resetUnit (s : State) (l : LineFields) : (s.stageLineEvent l).1.resetUnit = s.resetUnit := by
  unfold State.stageLineEvent; (repeat' split) <;> simp

@[simp] theorem stageNoteEvent_pending (s : State) (n : NoteFields) : (s.stageNoteEvent n).1.pending = s.pending := by
  unfold State.stageNoteEvent; (repeat' split) <;> simp
@[simp] theorem stageNoteEvent_room (s : State) (n : NoteFields) : (s.stageNoteEvent n).1.room = s.room := by
  unfold State.stageNoteEvent; (repeat' split) <;> simp
@[simp] theorem stageNoteEvent_panelA (s : State) (n : NoteFields) : (s.stageNoteEvent n).1.panelA = s.panelA := by
  unfold State.stageNoteEvent; (repeat' split) <;> simp
@[simp] theorem stageNoteEvent_panelB (s : State) (n : NoteFields) : (s.stageNoteEvent n).1.panelB = s.panelB := by
  unfold State.stageNoteEvent; (repeat' split) <;> simp
@[simp] theorem stageNoteEvent_deck (s : State) (n : NoteFields) : (s.stageNoteEvent n).1.deck = s.deck := by
  unfold State.stageNoteEvent; (repeat' split) <;> simp
@[simp] theorem stageNoteEvent_lyric (s : State) (n : NoteFields) : (s.stageNoteEvent n).1.lyric = s.lyric := by
  unfold State.stageNoteEvent; (repeat' split) <;> simp
@[simp] theorem stageNoteEvent_front (s : State) (n : NoteFields) : (s.stageNoteEvent n).1.front = s.front := by
  unfold State.stageNoteEvent; (repeat' split) <;> simp
@[simp] theorem stageNoteEvent_grader (s : State) (n : NoteFields) : (s.stageNoteEvent n).1.grader = s.grader := by
  unfold State.stageNoteEvent; (repeat' split) <;> simp
@[simp] theorem stageNoteEvent_results (s : State) (n : NoteFields) : (s.stageNoteEvent n).1.results = s.results := by
  unfold State.stageNoteEvent; (repeat' split) <;> simp
@[simp] theorem stageNoteEvent_port (s : State) (n : NoteFields) : (s.stageNoteEvent n).1.port = s.port := by
  unfold State.stageNoteEvent; (repeat' split) <;> simp
@[simp] theorem stageNoteEvent_desk (s : State) (n : NoteFields) : (s.stageNoteEvent n).1.desk = s.desk := by
  unfold State.stageNoteEvent; (repeat' split) <;> simp
@[simp] theorem stageNoteEvent_resetUnit (s : State) (n : NoteFields) : (s.stageNoteEvent n).1.resetUnit = s.resetUnit := by
  unfold State.stageNoteEvent; (repeat' split) <;> simp

@[simp] theorem stageCloseEvent_pending (s : State) (i : Nat) : (s.stageCloseEvent i).1.pending = s.pending := by
  unfold State.stageCloseEvent; (repeat' split) <;> simp
@[simp] theorem stageCloseEvent_panelA (s : State) (i : Nat) : (s.stageCloseEvent i).1.panelA = s.panelA := by
  unfold State.stageCloseEvent; (repeat' split) <;> simp
@[simp] theorem stageCloseEvent_panelB (s : State) (i : Nat) : (s.stageCloseEvent i).1.panelB = s.panelB := by
  unfold State.stageCloseEvent; (repeat' split) <;> simp
@[simp] theorem stageCloseEvent_front (s : State) (i : Nat) : (s.stageCloseEvent i).1.front = s.front := by
  unfold State.stageCloseEvent; (repeat' split) <;> simp
@[simp] theorem stageCloseEvent_results (s : State) (i : Nat) : (s.stageCloseEvent i).1.results = s.results := by
  unfold State.stageCloseEvent; (repeat' split) <;> simp
@[simp] theorem stageCloseEvent_resetUnit (s : State) (i : Nat) : (s.stageCloseEvent i).1.resetUnit = s.resetUnit := by
  unfold State.stageCloseEvent; (repeat' split) <;> simp

@[simp] theorem stageFailEvent_pending (s : State) (i : Nat) : (s.stageFailEvent i).1.pending = s.pending := by
  unfold State.stageFailEvent; (repeat' split) <;> simp
@[simp] theorem stageFailEvent_panelA (s : State) (i : Nat) : (s.stageFailEvent i).1.panelA = s.panelA := by
  unfold State.stageFailEvent; (repeat' split) <;> simp
@[simp] theorem stageFailEvent_panelB (s : State) (i : Nat) : (s.stageFailEvent i).1.panelB = s.panelB := by
  unfold State.stageFailEvent; (repeat' split) <;> simp
@[simp] theorem stageFailEvent_front (s : State) (i : Nat) : (s.stageFailEvent i).1.front = s.front := by
  unfold State.stageFailEvent; (repeat' split) <;> simp
@[simp] theorem stageFailEvent_resetUnit (s : State) (i : Nat) : (s.stageFailEvent i).1.resetUnit = s.resetUnit := by
  unfold State.stageFailEvent; (repeat' split) <;> simp

@[simp] theorem takeRun_pending (s : State) (m : Nat) : (s.takeRun m).1.pending = s.pending := by
  unfold State.takeRun; (repeat' split) <;> simp
@[simp] theorem takeRun_panelA (s : State) (m : Nat) : (s.takeRun m).1.panelA = s.panelA := by
  unfold State.takeRun; (repeat' split) <;> simp
@[simp] theorem takeRun_panelB (s : State) (m : Nat) : (s.takeRun m).1.panelB = s.panelB := by
  unfold State.takeRun; (repeat' split) <;> simp
@[simp] theorem takeRun_store (s : State) (m : Nat) : (s.takeRun m).1.store = s.store := by
  unfold State.takeRun; (repeat' split) <;> simp
@[simp] theorem takeRun_front (s : State) (m : Nat) : (s.takeRun m).1.front = s.front := by
  unfold State.takeRun; (repeat' split) <;> simp
@[simp] theorem takeRun_results (s : State) (m : Nat) : (s.takeRun m).1.results = s.results := by
  unfold State.takeRun; (repeat' split) <;> simp
@[simp] theorem takeRun_port (s : State) (m : Nat) : (s.takeRun m).1.port = s.port := by
  unfold State.takeRun; (repeat' split) <;> simp
@[simp] theorem takeRun_desk (s : State) (m : Nat) : (s.takeRun m).1.desk = s.desk := by
  unfold State.takeRun; (repeat' split) <;> simp
@[simp] theorem takeRun_resetUnit (s : State) (m : Nat) : (s.takeRun m).1.resetUnit = s.resetUnit := by
  unfold State.takeRun; (repeat' split) <;> simp

@[simp] theorem takeEnd_pending (s : State) (m : Nat) : (s.takeEnd m).1.pending = s.pending := by
  unfold State.takeEnd; (repeat' split) <;> simp
@[simp] theorem takeEnd_panelA (s : State) (m : Nat) : (s.takeEnd m).1.panelA = s.panelA := by
  unfold State.takeEnd; (repeat' split) <;> simp
@[simp] theorem takeEnd_panelB (s : State) (m : Nat) : (s.takeEnd m).1.panelB = s.panelB := by
  unfold State.takeEnd; (repeat' split) <;> simp
@[simp] theorem takeEnd_front (s : State) (m : Nat) : (s.takeEnd m).1.front = s.front := by
  unfold State.takeEnd; (repeat' split) <;> simp
@[simp] theorem takeEnd_resetUnit (s : State) (m : Nat) : (s.takeEnd m).1.resetUnit = s.resetUnit := by
  unfold State.takeEnd; (repeat' split) <;> simp

@[simp] theorem takeMark_pending (s : State) (i m : Nat) (k : Byte) : (s.takeMark i m k).1.pending = s.pending := by
  unfold State.takeMark; (repeat' split) <;> simp
@[simp] theorem takeMark_panelA (s : State) (i m : Nat) (k : Byte) : (s.takeMark i m k).1.panelA = s.panelA := by
  unfold State.takeMark; (repeat' split) <;> simp
@[simp] theorem takeMark_panelB (s : State) (i m : Nat) (k : Byte) : (s.takeMark i m k).1.panelB = s.panelB := by
  unfold State.takeMark; (repeat' split) <;> simp
@[simp] theorem takeMark_front (s : State) (i m : Nat) (k : Byte) : (s.takeMark i m k).1.front = s.front := by
  unfold State.takeMark; (repeat' split) <;> simp
@[simp] theorem takeMark_resetUnit (s : State) (i m : Nat) (k : Byte) : (s.takeMark i m k).1.resetUnit = s.resetUnit := by
  unfold State.takeMark; (repeat' split) <;> simp

@[simp] theorem holdEvent_pending (s : State) : (s.holdEvent).1.pending = s.pending := by
  unfold State.holdEvent; (repeat' split) <;> simp
@[simp] theorem holdEvent_room (s : State) : (s.holdEvent).1.room = s.room := by
  unfold State.holdEvent; (repeat' split) <;> simp
@[simp] theorem holdEvent_panelA (s : State) : (s.holdEvent).1.panelA = s.panelA := by
  unfold State.holdEvent; (repeat' split) <;> simp
@[simp] theorem holdEvent_panelB (s : State) : (s.holdEvent).1.panelB = s.panelB := by
  unfold State.holdEvent; (repeat' split) <;> simp
@[simp] theorem holdEvent_store (s : State) : (s.holdEvent).1.store = s.store := by
  unfold State.holdEvent; (repeat' split) <;> simp
@[simp] theorem holdEvent_lyric (s : State) : (s.holdEvent).1.lyric = s.lyric := by
  unfold State.holdEvent; (repeat' split) <;> simp
@[simp] theorem holdEvent_front (s : State) : (s.holdEvent).1.front = s.front := by
  unfold State.holdEvent; (repeat' split) <;> simp
@[simp] theorem holdEvent_grader (s : State) : (s.holdEvent).1.grader = s.grader := by
  unfold State.holdEvent; (repeat' split) <;> simp
@[simp] theorem holdEvent_results (s : State) : (s.holdEvent).1.results = s.results := by
  unfold State.holdEvent; (repeat' split) <;> simp
@[simp] theorem holdEvent_desk (s : State) : (s.holdEvent).1.desk = s.desk := by
  unfold State.holdEvent; (repeat' split) <;> simp
@[simp] theorem holdEvent_resetUnit (s : State) : (s.holdEvent).1.resetUnit = s.resetUnit := by
  unfold State.holdEvent; (repeat' split) <;> simp

@[simp] theorem goEvent_pending (s : State) : (s.goEvent).1.pending = s.pending := by
  unfold State.goEvent; (repeat' split) <;> simp
@[simp] theorem goEvent_room (s : State) : (s.goEvent).1.room = s.room := by
  unfold State.goEvent; (repeat' split) <;> simp
@[simp] theorem goEvent_panelA (s : State) : (s.goEvent).1.panelA = s.panelA := by
  unfold State.goEvent; (repeat' split) <;> simp
@[simp] theorem goEvent_panelB (s : State) : (s.goEvent).1.panelB = s.panelB := by
  unfold State.goEvent; (repeat' split) <;> simp
@[simp] theorem goEvent_store (s : State) : (s.goEvent).1.store = s.store := by
  unfold State.goEvent; (repeat' split) <;> simp
@[simp] theorem goEvent_front (s : State) : (s.goEvent).1.front = s.front := by
  unfold State.goEvent; (repeat' split) <;> simp
@[simp] theorem goEvent_results (s : State) : (s.goEvent).1.results = s.results := by
  unfold State.goEvent; (repeat' split) <;> simp
@[simp] theorem goEvent_desk (s : State) : (s.goEvent).1.desk = s.desk := by
  unfold State.goEvent; (repeat' split) <;> simp
@[simp] theorem goEvent_resetUnit (s : State) : (s.goEvent).1.resetUnit = s.resetUnit := by
  unfold State.goEvent; (repeat' split) <;> simp

@[simp] theorem keyEvent_pending (s : State) (d : Int) : (s.keyEvent d).1.pending = s.pending := by
  unfold State.keyEvent; (repeat' split) <;> simp
@[simp] theorem keyEvent_room (s : State) (d : Int) : (s.keyEvent d).1.room = s.room := by
  unfold State.keyEvent; (repeat' split) <;> simp
@[simp] theorem keyEvent_panelA (s : State) (d : Int) : (s.keyEvent d).1.panelA = s.panelA := by
  unfold State.keyEvent; (repeat' split) <;> simp
@[simp] theorem keyEvent_panelB (s : State) (d : Int) : (s.keyEvent d).1.panelB = s.panelB := by
  unfold State.keyEvent; (repeat' split) <;> simp
@[simp] theorem keyEvent_store (s : State) (d : Int) : (s.keyEvent d).1.store = s.store := by
  unfold State.keyEvent; (repeat' split) <;> simp
@[simp] theorem keyEvent_lyric (s : State) (d : Int) : (s.keyEvent d).1.lyric = s.lyric := by
  unfold State.keyEvent; (repeat' split) <;> simp
@[simp] theorem keyEvent_front (s : State) (d : Int) : (s.keyEvent d).1.front = s.front := by
  unfold State.keyEvent; (repeat' split) <;> simp
@[simp] theorem keyEvent_grader (s : State) (d : Int) : (s.keyEvent d).1.grader = s.grader := by
  unfold State.keyEvent; (repeat' split) <;> simp
@[simp] theorem keyEvent_results (s : State) (d : Int) : (s.keyEvent d).1.results = s.results := by
  unfold State.keyEvent; (repeat' split) <;> simp
@[simp] theorem keyEvent_desk (s : State) (d : Int) : (s.keyEvent d).1.desk = s.desk := by
  unfold State.keyEvent; (repeat' split) <;> simp
@[simp] theorem keyEvent_resetUnit (s : State) (d : Int) : (s.keyEvent d).1.resetUnit = s.resetUnit := by
  unfold State.keyEvent; (repeat' split) <;> simp

@[simp] theorem skipEvent_pending (s : State) (i : Nat) : (s.skipEvent i).1.pending = s.pending := by
  unfold State.skipEvent; (repeat' split) <;> simp
@[simp] theorem skipEvent_room (s : State) (i : Nat) : (s.skipEvent i).1.room = s.room := by
  unfold State.skipEvent; (repeat' split) <;> simp
@[simp] theorem skipEvent_panelA (s : State) (i : Nat) : (s.skipEvent i).1.panelA = s.panelA := by
  unfold State.skipEvent; (repeat' split) <;> simp
@[simp] theorem skipEvent_panelB (s : State) (i : Nat) : (s.skipEvent i).1.panelB = s.panelB := by
  unfold State.skipEvent; (repeat' split) <;> simp
@[simp] theorem skipEvent_store (s : State) (i : Nat) : (s.skipEvent i).1.store = s.store := by
  unfold State.skipEvent; (repeat' split) <;> simp
@[simp] theorem skipEvent_lyric (s : State) (i : Nat) : (s.skipEvent i).1.lyric = s.lyric := by
  unfold State.skipEvent; (repeat' split) <;> simp
@[simp] theorem skipEvent_front (s : State) (i : Nat) : (s.skipEvent i).1.front = s.front := by
  unfold State.skipEvent; (repeat' split) <;> simp
@[simp] theorem skipEvent_resetUnit (s : State) (i : Nat) : (s.skipEvent i).1.resetUnit = s.resetUnit := by
  unfold State.skipEvent; (repeat' split) <;> simp

@[simp] theorem stopSongEvent_pending (s : State) : (s.stopSongEvent).1.pending = s.pending := by
  unfold State.stopSongEvent; (repeat' split) <;> simp
@[simp] theorem stopSongEvent_room (s : State) : (s.stopSongEvent).1.room = s.room := by
  unfold State.stopSongEvent; (repeat' split) <;> simp
@[simp] theorem stopSongEvent_panelA (s : State) : (s.stopSongEvent).1.panelA = s.panelA := by
  unfold State.stopSongEvent; (repeat' split) <;> simp
@[simp] theorem stopSongEvent_panelB (s : State) : (s.stopSongEvent).1.panelB = s.panelB := by
  unfold State.stopSongEvent; (repeat' split) <;> simp
@[simp] theorem stopSongEvent_store (s : State) : (s.stopSongEvent).1.store = s.store := by
  unfold State.stopSongEvent; (repeat' split) <;> simp
@[simp] theorem stopSongEvent_lyric (s : State) : (s.stopSongEvent).1.lyric = s.lyric := by
  unfold State.stopSongEvent; (repeat' split) <;> simp
@[simp] theorem stopSongEvent_front (s : State) : (s.stopSongEvent).1.front = s.front := by
  unfold State.stopSongEvent; (repeat' split) <;> simp
@[simp] theorem stopSongEvent_resetUnit (s : State) : (s.stopSongEvent).1.resetUnit = s.resetUnit := by
  unfold State.stopSongEvent; (repeat' split) <;> simp

@[simp] theorem standbyEvent_pending (s : State) : (s.standbyEvent).1.pending = s.pending := by
  unfold State.standbyEvent; (repeat' split) <;> simp
@[simp] theorem standbyEvent_room (s : State) : (s.standbyEvent).1.room = s.room := by
  unfold State.standbyEvent; (repeat' split) <;> simp
@[simp] theorem standbyEvent_panelA (s : State) : (s.standbyEvent).1.panelA = s.panelA := by
  unfold State.standbyEvent; (repeat' split) <;> simp
@[simp] theorem standbyEvent_panelB (s : State) : (s.standbyEvent).1.panelB = s.panelB := by
  unfold State.standbyEvent; (repeat' split) <;> simp
@[simp] theorem standbyEvent_store (s : State) : (s.standbyEvent).1.store = s.store := by
  unfold State.standbyEvent; (repeat' split) <;> simp
@[simp] theorem standbyEvent_deck (s : State) : (s.standbyEvent).1.deck = s.deck := by
  unfold State.standbyEvent; (repeat' split) <;> simp
@[simp] theorem standbyEvent_lyric (s : State) : (s.standbyEvent).1.lyric = s.lyric := by
  unfold State.standbyEvent; (repeat' split) <;> simp
@[simp] theorem standbyEvent_grader (s : State) : (s.standbyEvent).1.grader = s.grader := by
  unfold State.standbyEvent; (repeat' split) <;> simp
@[simp] theorem standbyEvent_results (s : State) : (s.standbyEvent).1.results = s.results := by
  unfold State.standbyEvent; (repeat' split) <;> simp
@[simp] theorem standbyEvent_port (s : State) : (s.standbyEvent).1.port = s.port := by
  unfold State.standbyEvent; (repeat' split) <;> simp
@[simp] theorem standbyEvent_resetUnit (s : State) : (s.standbyEvent).1.resetUnit = s.resetUnit := by
  unfold State.standbyEvent; (repeat' split) <;> simp

end Sys2Proof.Machine.State
end

