-- ==== Sys2Proof/Laws/DeskFrames.lean ====
section
/-! SUPPORT. What each shared operation leaves of the desk line unit, where it sets event flags: one lemma per operation and
field. -/

namespace Sys2Proof.Machine.State

@[simp] theorem raise_desk_bus (s : State) (f : EventFlag) : (s.raise f).desk.bus = s.desk.bus := by
  cases f <;> rfl
@[simp] theorem raise_desk_busAddress (s : State) (f : EventFlag) : (s.raise f).desk.busAddress = s.desk.busAddress := by
  cases f <;> rfl
@[simp] theorem raise_desk_busTimer (s : State) (f : EventFlag) : (s.raise f).desk.busTimer = s.desk.busTimer := by
  cases f <;> rfl
@[simp] theorem raise_desk_reply (s : State) (f : EventFlag) : (s.raise f).desk.reply = s.desk.reply := by
  cases f <;> rfl
@[simp] theorem raise_desk_mask (s : State) (f : EventFlag) : (s.raise f).desk.mask = s.desk.mask := by
  cases f <;> rfl
@[simp] theorem raise_desk_settings (s : State) (f : EventFlag) : (s.raise f).desk.settings = s.desk.settings := by
  cases f <;> rfl
@[simp] theorem raise_desk_standby (s : State) (f : EventFlag) : (s.raise f).desk.standby = s.desk.standby := by
  cases f <;> rfl

@[simp] theorem startEntry_desk_bus (s : State) (e : Entry) (rest : List Entry) : (s.startEntry e rest).desk.bus = s.desk.bus := by
  simp [State.startEntry]
@[simp] theorem startEntry_desk_busAddress (s : State) (e : Entry) (rest : List Entry) : (s.startEntry e rest).desk.busAddress = s.desk.busAddress := by
  simp [State.startEntry]
@[simp] theorem startEntry_desk_busTimer (s : State) (e : Entry) (rest : List Entry) : (s.startEntry e rest).desk.busTimer = s.desk.busTimer := by
  simp [State.startEntry]
@[simp] theorem startEntry_desk_reply (s : State) (e : Entry) (rest : List Entry) : (s.startEntry e rest).desk.reply = s.desk.reply := by
  simp [State.startEntry]
@[simp] theorem startEntry_desk_mask (s : State) (e : Entry) (rest : List Entry) : (s.startEntry e rest).desk.mask = s.desk.mask := by
  simp [State.startEntry]
@[simp] theorem startEntry_desk_settings (s : State) (e : Entry) (rest : List Entry) : (s.startEntry e rest).desk.settings = s.desk.settings := by
  simp [State.startEntry]
@[simp] theorem startEntry_desk_standby (s : State) (e : Entry) (rest : List Entry) : (s.startEntry e rest).desk.standby = s.desk.standby := by
  simp [State.startEntry]

@[simp] theorem start_desk_bus (s : State) : (s.start).desk.bus = s.desk.bus := by
  unfold State.start; (repeat' split) <;> simp
@[simp] theorem start_desk_busAddress (s : State) : (s.start).desk.busAddress = s.desk.busAddress := by
  unfold State.start; (repeat' split) <;> simp
@[simp] theorem start_desk_busTimer (s : State) : (s.start).desk.busTimer = s.desk.busTimer := by
  unfold State.start; (repeat' split) <;> simp
@[simp] theorem start_desk_reply (s : State) : (s.start).desk.reply = s.desk.reply := by
  unfold State.start; (repeat' split) <;> simp
@[simp] theorem start_desk_mask (s : State) : (s.start).desk.mask = s.desk.mask := by
  unfold State.start; (repeat' split) <;> simp
@[simp] theorem start_desk_settings (s : State) : (s.start).desk.settings = s.desk.settings := by
  unfold State.start; (repeat' split) <;> simp
@[simp] theorem start_desk_standby (s : State) : (s.start).desk.standby = s.desk.standby := by
  unfold State.start; (repeat' split) <;> simp

@[simp] theorem noteShortage_desk_bus (s : State) : (s.noteShortage).desk.bus = s.desk.bus := by
  unfold State.noteShortage; (repeat' split) <;> simp
@[simp] theorem noteShortage_desk_busAddress (s : State) : (s.noteShortage).desk.busAddress = s.desk.busAddress := by
  unfold State.noteShortage; (repeat' split) <;> simp
@[simp] theorem noteShortage_desk_busTimer (s : State) : (s.noteShortage).desk.busTimer = s.desk.busTimer := by
  unfold State.noteShortage; (repeat' split) <;> simp
@[simp] theorem noteShortage_desk_reply (s : State) : (s.noteShortage).desk.reply = s.desk.reply := by
  unfold State.noteShortage; (repeat' split) <;> simp
@[simp] theorem noteShortage_desk_mask (s : State) : (s.noteShortage).desk.mask = s.desk.mask := by
  unfold State.noteShortage; (repeat' split) <;> simp
@[simp] theorem noteShortage_desk_settings (s : State) : (s.noteShortage).desk.settings = s.desk.settings := by
  unfold State.noteShortage; (repeat' split) <;> simp
@[simp] theorem noteShortage_desk_standby (s : State) : (s.noteShortage).desk.standby = s.desk.standby := by
  unfold State.noteShortage; (repeat' split) <;> simp

@[simp] theorem reexamine_desk_bus (s : State) : (s.reexamine).desk.bus = s.desk.bus := by
  unfold State.reexamine; (repeat' split) <;> simp
@[simp] theorem reexamine_desk_busAddress (s : State) : (s.reexamine).desk.busAddress = s.desk.busAddress := by
  unfold State.reexamine; (repeat' split) <;> simp
@[simp] theorem reexamine_desk_busTimer (s : State) : (s.reexamine).desk.busTimer = s.desk.busTimer := by
  unfold State.reexamine; (repeat' split) <;> simp
@[simp] theorem reexamine_desk_reply (s : State) : (s.reexamine).desk.reply = s.desk.reply := by
  unfold State.reexamine; (repeat' split) <;> simp
@[simp] theorem reexamine_desk_mask (s : State) : (s.reexamine).desk.mask = s.desk.mask := by
  unfold State.reexamine; (repeat' split) <;> simp
@[simp] theorem reexamine_desk_settings (s : State) : (s.reexamine).desk.settings = s.desk.settings := by
  unfold State.reexamine; (repeat' split) <;> simp
@[simp] theorem reexamine_desk_standby (s : State) : (s.reexamine).desk.standby = s.desk.standby := by
  unfold State.reexamine; (repeat' split) <;> simp

@[simp] theorem reexamineEvent_desk_bus (s : State) : (s.reexamineEvent).desk.bus = s.desk.bus := by
  unfold State.reexamineEvent; (repeat' split) <;> simp
@[simp] theorem reexamineEvent_desk_busAddress (s : State) : (s.reexamineEvent).desk.busAddress = s.desk.busAddress := by
  unfold State.reexamineEvent; (repeat' split) <;> simp
@[simp] theorem reexamineEvent_desk_busTimer (s : State) : (s.reexamineEvent).desk.busTimer = s.desk.busTimer := by
  unfold State.reexamineEvent; (repeat' split) <;> simp
@[simp] theorem reexamineEvent_desk_reply (s : State) : (s.reexamineEvent).desk.reply = s.desk.reply := by
  unfold State.reexamineEvent; (repeat' split) <;> simp
@[simp] theorem reexamineEvent_desk_mask (s : State) : (s.reexamineEvent).desk.mask = s.desk.mask := by
  unfold State.reexamineEvent; (repeat' split) <;> simp
@[simp] theorem reexamineEvent_desk_settings (s : State) : (s.reexamineEvent).desk.settings = s.desk.settings := by
  unfold State.reexamineEvent; (repeat' split) <;> simp
@[simp] theorem reexamineEvent_desk_standby (s : State) : (s.reexamineEvent).desk.standby = s.desk.standby := by
  unfold State.reexamineEvent; (repeat' split) <;> simp

@[simp] theorem headEvent_desk_bus (s : State) (before : Option Nat) : (s.headEvent before).desk.bus = s.desk.bus := by
  unfold State.headEvent; (repeat' split) <;> simp
@[simp] theorem headEvent_desk_busAddress (s : State) (before : Option Nat) : (s.headEvent before).desk.busAddress = s.desk.busAddress := by
  unfold State.headEvent; (repeat' split) <;> simp
@[simp] theorem headEvent_desk_busTimer (s : State) (before : Option Nat) : (s.headEvent before).desk.busTimer = s.desk.busTimer := by
  unfold State.headEvent; (repeat' split) <;> simp
@[simp] theorem headEvent_desk_reply (s : State) (before : Option Nat) : (s.headEvent before).desk.reply = s.desk.reply := by
  unfold State.headEvent; (repeat' split) <;> simp
@[simp] theorem headEvent_desk_mask (s : State) (before : Option Nat) : (s.headEvent before).desk.mask = s.desk.mask := by
  unfold State.headEvent; (repeat' split) <;> simp
@[simp] theorem headEvent_desk_settings (s : State) (before : Option Nat) : (s.headEvent before).desk.settings = s.desk.settings := by
  unfold State.headEvent; (repeat' split) <;> simp
@[simp] theorem headEvent_desk_standby (s : State) (before : Option Nat) : (s.headEvent before).desk.standby = s.desk.standby := by
  unfold State.headEvent; (repeat' split) <;> simp

@[simp] theorem queueEvent_desk_bus (s : State) (q : RoomQueue) : (s.queueEvent q).desk.bus = s.desk.bus := by
  simp [State.queueEvent]
@[simp] theorem queueEvent_desk_busAddress (s : State) (q : RoomQueue) : (s.queueEvent q).desk.busAddress = s.desk.busAddress := by
  simp [State.queueEvent]
@[simp] theorem queueEvent_desk_busTimer (s : State) (q : RoomQueue) : (s.queueEvent q).desk.busTimer = s.desk.busTimer := by
  simp [State.queueEvent]
@[simp] theorem queueEvent_desk_reply (s : State) (q : RoomQueue) : (s.queueEvent q).desk.reply = s.desk.reply := by
  simp [State.queueEvent]
@[simp] theorem queueEvent_desk_mask (s : State) (q : RoomQueue) : (s.queueEvent q).desk.mask = s.desk.mask := by
  simp [State.queueEvent]
@[simp] theorem queueEvent_desk_settings (s : State) (q : RoomQueue) : (s.queueEvent q).desk.settings = s.desk.settings := by
  simp [State.queueEvent]
@[simp] theorem queueEvent_desk_standby (s : State) (q : RoomQueue) : (s.queueEvent q).desk.standby = s.desk.standby := by
  simp [State.queueEvent]

@[simp] theorem accountEvent_desk_bus (s : State) (q : RoomQueue) : (s.accountEvent q).desk.bus = s.desk.bus := by
  unfold State.accountEvent; (repeat' split) <;> simp
@[simp] theorem accountEvent_desk_busAddress (s : State) (q : RoomQueue) : (s.accountEvent q).desk.busAddress = s.desk.busAddress := by
  unfold State.accountEvent; (repeat' split) <;> simp
@[simp] theorem accountEvent_desk_busTimer (s : State) (q : RoomQueue) : (s.accountEvent q).desk.busTimer = s.desk.busTimer := by
  unfold State.accountEvent; (repeat' split) <;> simp
@[simp] theorem accountEvent_desk_reply (s : State) (q : RoomQueue) : (s.accountEvent q).desk.reply = s.desk.reply := by
  unfold State.accountEvent; (repeat' split) <;> simp
@[simp] theorem accountEvent_desk_mask (s : State) (q : RoomQueue) : (s.accountEvent q).desk.mask = s.desk.mask := by
  unfold State.accountEvent; (repeat' split) <;> simp
@[simp] theorem accountEvent_desk_settings (s : State) (q : RoomQueue) : (s.accountEvent q).desk.settings = s.desk.settings := by
  unfold State.accountEvent; (repeat' split) <;> simp
@[simp] theorem accountEvent_desk_standby (s : State) (q : RoomQueue) : (s.accountEvent q).desk.standby = s.desk.standby := by
  unfold State.accountEvent; (repeat' split) <;> simp

@[simp] theorem unlockRoom_desk_bus (s : State) : (s.unlockRoom).desk.bus = s.desk.bus := by
  simp [State.unlockRoom]
@[simp] theorem unlockRoom_desk_busAddress (s : State) : (s.unlockRoom).desk.busAddress = s.desk.busAddress := by
  simp [State.unlockRoom]
@[simp] theorem unlockRoom_desk_busTimer (s : State) : (s.unlockRoom).desk.busTimer = s.desk.busTimer := by
  simp [State.unlockRoom]
@[simp] theorem unlockRoom_desk_reply (s : State) : (s.unlockRoom).desk.reply = s.desk.reply := by
  simp [State.unlockRoom]
@[simp] theorem unlockRoom_desk_mask (s : State) : (s.unlockRoom).desk.mask = s.desk.mask := by
  simp [State.unlockRoom]
@[simp] theorem unlockRoom_desk_settings (s : State) : (s.unlockRoom).desk.settings = s.desk.settings := by
  simp [State.unlockRoom]
@[simp] theorem unlockRoom_desk_standby (s : State) : (s.unlockRoom).desk.standby = s.desk.standby := by
  simp [State.unlockRoom]

@[simp] theorem addRecord_desk_bus (s : State) (r : HistoryRecord) : (s.addRecord r).desk.bus = s.desk.bus := by
  unfold State.addRecord; (repeat' split) <;> simp
@[simp] theorem addRecord_desk_busAddress (s : State) (r : HistoryRecord) : (s.addRecord r).desk.busAddress = s.desk.busAddress := by
  unfold State.addRecord; (repeat' split) <;> simp
@[simp] theorem addRecord_desk_busTimer (s : State) (r : HistoryRecord) : (s.addRecord r).desk.busTimer = s.desk.busTimer := by
  unfold State.addRecord; (repeat' split) <;> simp
@[simp] theorem addRecord_desk_reply (s : State) (r : HistoryRecord) : (s.addRecord r).desk.reply = s.desk.reply := by
  unfold State.addRecord; (repeat' split) <;> simp
@[simp] theorem addRecord_desk_mask (s : State) (r : HistoryRecord) : (s.addRecord r).desk.mask = s.desk.mask := by
  unfold State.addRecord; (repeat' split) <;> simp
@[simp] theorem addRecord_desk_settings (s : State) (r : HistoryRecord) : (s.addRecord r).desk.settings = s.desk.settings := by
  unfold State.addRecord; (repeat' split) <;> simp
@[simp] theorem addRecord_desk_standby (s : State) (r : HistoryRecord) : (s.addRecord r).desk.standby = s.desk.standby := by
  unfold State.addRecord; (repeat' split) <;> simp

@[simp] theorem finalise_desk_bus (s : State) (o : SongOutcome) (t : Nat) : (s.finalise o t).desk.bus = s.desk.bus := by
  unfold State.finalise; (repeat' split) <;> simp
@[simp] theorem finalise_desk_busAddress (s : State) (o : SongOutcome) (t : Nat) : (s.finalise o t).desk.busAddress = s.desk.busAddress := by
  unfold State.finalise; (repeat' split) <;> simp
@[simp] theorem finalise_desk_busTimer (s : State) (o : SongOutcome) (t : Nat) : (s.finalise o t).desk.busTimer = s.desk.busTimer := by
  unfold State.finalise; (repeat' split) <;> simp
@[simp] theorem finalise_desk_reply (s : State) (o : SongOutcome) (t : Nat) : (s.finalise o t).desk.reply = s.desk.reply := by
  unfold State.finalise; (repeat' split) <;> simp
@[simp] theorem finalise_desk_mask (s : State) (o : SongOutcome) (t : Nat) : (s.finalise o t).desk.mask = s.desk.mask := by
  unfold State.finalise; (repeat' split) <;> simp
@[simp] theorem finalise_desk_settings (s : State) (o : SongOutcome) (t : Nat) : (s.finalise o t).desk.settings = s.desk.settings := by
  unfold State.finalise; (repeat' split) <;> simp
@[simp] theorem finalise_desk_standby (s : State) (o : SongOutcome) (t : Nat) : (s.finalise o t).desk.standby = s.desk.standby := by
  unfold State.finalise; (repeat' split) <;> simp

@[simp] theorem idleEvent_desk_bus (s : State) : (s.idleEvent).desk.bus = s.desk.bus := by
  simp [State.idleEvent]
@[simp] theorem idleEvent_desk_busAddress (s : State) : (s.idleEvent).desk.busAddress = s.desk.busAddress := by
  simp [State.idleEvent]
@[simp] theorem idleEvent_desk_busTimer (s : State) : (s.idleEvent).desk.busTimer = s.desk.busTimer := by
  simp [State.idleEvent]
@[simp] theorem idleEvent_desk_reply (s : State) : (s.idleEvent).desk.reply = s.desk.reply := by
  simp [State.idleEvent]
@[simp] theorem idleEvent_desk_mask (s : State) : (s.idleEvent).desk.mask = s.desk.mask := by
  simp [State.idleEvent]
@[simp] theorem idleEvent_desk_settings (s : State) : (s.idleEvent).desk.settings = s.desk.settings := by
  simp [State.idleEvent]
@[simp] theorem idleEvent_desk_standby (s : State) : (s.idleEvent).desk.standby = s.desk.standby := by
  simp [State.idleEvent]

@[simp] theorem endSong_desk_bus (s : State) (o : SongOutcome) : (s.endSong o).desk.bus = s.desk.bus := by
  simp [State.endSong]
@[simp] theorem endSong_desk_busAddress (s : State) (o : SongOutcome) : (s.endSong o).desk.busAddress = s.desk.busAddress := by
  simp [State.endSong]
@[simp] theorem endSong_desk_busTimer (s : State) (o : SongOutcome) : (s.endSong o).desk.busTimer = s.desk.busTimer := by
  simp [State.endSong]
@[simp] theorem endSong_desk_reply (s : State) (o : SongOutcome) : (s.endSong o).desk.reply = s.desk.reply := by
  simp [State.endSong]
@[simp] theorem endSong_desk_mask (s : State) (o : SongOutcome) : (s.endSong o).desk.mask = s.desk.mask := by
  simp [State.endSong]
@[simp] theorem endSong_desk_settings (s : State) (o : SongOutcome) : (s.endSong o).desk.settings = s.desk.settings := by
  simp [State.endSong]
@[simp] theorem endSong_desk_standby (s : State) (o : SongOutcome) : (s.endSong o).desk.standby = s.desk.standby := by
  simp [State.endSong]

@[simp] theorem roomClearEvent_desk_bus (s : State) : (s.roomClearEvent).desk.bus = s.desk.bus := by
  simp [State.roomClearEvent]
@[simp] theorem roomClearEvent_desk_busAddress (s : State) : (s.roomClearEvent).desk.busAddress = s.desk.busAddress := by
  simp [State.roomClearEvent]
@[simp] theorem roomClearEvent_desk_busTimer (s : State) : (s.roomClearEvent).desk.busTimer = s.desk.busTimer := by
  simp [State.roomClearEvent]
@[simp] theorem roomClearEvent_desk_reply (s : State) : (s.roomClearEvent).desk.reply = s.desk.reply := by
  simp [State.roomClearEvent]
@[simp] theorem roomClearEvent_desk_mask (s : State) : (s.roomClearEvent).desk.mask = s.desk.mask := by
  simp [State.roomClearEvent]
@[simp] theorem roomClearEvent_desk_settings (s : State) : (s.roomClearEvent).desk.settings = s.desk.settings := by
  simp [State.roomClearEvent]
@[simp] theorem roomClearEvent_desk_standby (s : State) : (s.roomClearEvent).desk.standby = s.desk.standby := by
  simp [State.roomClearEvent]

@[simp] theorem leaveStandby_desk_bus (s : State) : (s.leaveStandby).desk.bus = s.desk.bus := by
  simp [State.leaveStandby]
@[simp] theorem leaveStandby_desk_busAddress (s : State) : (s.leaveStandby).desk.busAddress = s.desk.busAddress := by
  simp [State.leaveStandby]
@[simp] theorem leaveStandby_desk_busTimer (s : State) : (s.leaveStandby).desk.busTimer = s.desk.busTimer := by
  simp [State.leaveStandby]
@[simp] theorem leaveStandby_desk_reply (s : State) : (s.leaveStandby).desk.reply = s.desk.reply := by
  simp [State.leaveStandby]
@[simp] theorem leaveStandby_desk_mask (s : State) : (s.leaveStandby).desk.mask = s.desk.mask := by
  simp [State.leaveStandby]
@[simp] theorem leaveStandby_desk_settings (s : State) : (s.leaveStandby).desk.settings = s.desk.settings := by
  simp [State.leaveStandby]
@[simp] theorem leaveStandby_desk_standby (s : State) : (s.leaveStandby).desk.standby = false := by
  simp [State.leaveStandby]

@[simp] theorem submit_desk_bus (s : State) (o : Origin) (b : Bool) (r : SongRequest) : (s.submit o b r).1.desk.bus = s.desk.bus := by
  unfold State.submit; (repeat' split) <;> simp
@[simp] theorem submit_desk_busAddress (s : State) (o : Origin) (b : Bool) (r : SongRequest) : (s.submit o b r).1.desk.busAddress = s.desk.busAddress := by
  unfold State.submit; (repeat' split) <;> simp
@[simp] theorem submit_desk_busTimer (s : State) (o : Origin) (b : Bool) (r : SongRequest) : (s.submit o b r).1.desk.busTimer = s.desk.busTimer := by
  unfold State.submit; (repeat' split) <;> simp
@[simp] theorem submit_desk_reply (s : State) (o : Origin) (b : Bool) (r : SongRequest) : (s.submit o b r).1.desk.reply = s.desk.reply := by
  unfold State.submit; (repeat' split) <;> simp
@[simp] theorem submit_desk_mask (s : State) (o : Origin) (b : Bool) (r : SongRequest) : (s.submit o b r).1.desk.mask = s.desk.mask := by
  unfold State.submit; (repeat' split) <;> simp
@[simp] theorem submit_desk_settings (s : State) (o : Origin) (b : Bool) (r : SongRequest) : (s.submit o b r).1.desk.settings = s.desk.settings := by
  unfold State.submit; (repeat' split) <;> simp
@[simp] theorem submit_desk_standby (s : State) (o : Origin) (b : Bool) (r : SongRequest) : (s.submit o b r).1.desk.standby = s.desk.standby := by
  unfold State.submit; (repeat' split) <;> simp

@[simp] theorem cancel_desk_bus (s : State) (o : Origin) (i : Nat) : (s.cancel o i).1.desk.bus = s.desk.bus := by
  unfold State.cancel; (repeat' split) <;> simp
@[simp] theorem cancel_desk_busAddress (s : State) (o : Origin) (i : Nat) : (s.cancel o i).1.desk.busAddress = s.desk.busAddress := by
  unfold State.cancel; (repeat' split) <;> simp
@[simp] theorem cancel_desk_busTimer (s : State) (o : Origin) (i : Nat) : (s.cancel o i).1.desk.busTimer = s.desk.busTimer := by
  unfold State.cancel; (repeat' split) <;> simp
@[simp] theorem cancel_desk_reply (s : State) (o : Origin) (i : Nat) : (s.cancel o i).1.desk.reply = s.desk.reply := by
  unfold State.cancel; (repeat' split) <;> simp
@[simp] theorem cancel_desk_mask (s : State) (o : Origin) (i : Nat) : (s.cancel o i).1.desk.mask = s.desk.mask := by
  unfold State.cancel; (repeat' split) <;> simp
@[simp] theorem cancel_desk_settings (s : State) (o : Origin) (i : Nat) : (s.cancel o i).1.desk.settings = s.desk.settings := by
  unfold State.cancel; (repeat' split) <;> simp
@[simp] theorem cancel_desk_standby (s : State) (o : Origin) (i : Nat) : (s.cancel o i).1.desk.standby = s.desk.standby := by
  unfold State.cancel; (repeat' split) <;> simp

@[simp] theorem moveEntry_desk_bus (s : State) (e : Entry) (i : Nat) : (s.moveEntry e i).1.desk.bus = s.desk.bus := by
  unfold State.moveEntry; dsimp only; split <;> simp
@[simp] theorem moveEntry_desk_busAddress (s : State) (e : Entry) (i : Nat) : (s.moveEntry e i).1.desk.busAddress = s.desk.busAddress := by
  unfold State.moveEntry; dsimp only; split <;> simp
@[simp] theorem moveEntry_desk_busTimer (s : State) (e : Entry) (i : Nat) : (s.moveEntry e i).1.desk.busTimer = s.desk.busTimer := by
  unfold State.moveEntry; dsimp only; split <;> simp
@[simp] theorem moveEntry_desk_reply (s : State) (e : Entry) (i : Nat) : (s.moveEntry e i).1.desk.reply = s.desk.reply := by
  unfold State.moveEntry; dsimp only; split <;> simp
@[simp] theorem moveEntry_desk_mask (s : State) (e : Entry) (i : Nat) : (s.moveEntry e i).1.desk.mask = s.desk.mask := by
  unfold State.moveEntry; dsimp only; split <;> simp
@[simp] theorem moveEntry_desk_settings (s : State) (e : Entry) (i : Nat) : (s.moveEntry e i).1.desk.settings = s.desk.settings := by
  unfold State.moveEntry; dsimp only; split <;> simp
@[simp] theorem moveEntry_desk_standby (s : State) (e : Entry) (i : Nat) : (s.moveEntry e i).1.desk.standby = s.desk.standby := by
  unfold State.moveEntry; dsimp only; split <;> simp

@[simp] theorem panelMove_desk_bus (s : State) (o : Origin) (i k : Nat) : (s.panelMove o i k).1.desk.bus = s.desk.bus := by
  unfold State.panelMove; (repeat' split) <;> simp
@[simp] theorem panelMove_desk_busAddress (s : State) (o : Origin) (i k : Nat) : (s.panelMove o i k).1.desk.busAddress = s.desk.busAddress := by
  unfold State.panelMove; (repeat' split) <;> simp
@[simp] theorem panelMove_desk_busTimer (s : State) (o : Origin) (i k : Nat) : (s.panelMove o i k).1.desk.busTimer = s.desk.busTimer := by
  unfold State.panelMove; (repeat' split) <;> simp
@[simp] theorem panelMove_desk_reply (s : State) (o : Origin) (i k : Nat) : (s.panelMove o i k).1.desk.reply = s.desk.reply := by
  unfold State.panelMove; (repeat' split) <;> simp
@[simp] theorem panelMove_desk_mask (s : State) (o : Origin) (i k : Nat) : (s.panelMove o i k).1.desk.mask = s.desk.mask := by
  unfold State.panelMove; (repeat' split) <;> simp
@[simp] theorem panelMove_desk_settings (s : State) (o : Origin) (i k : Nat) : (s.panelMove o i k).1.desk.settings = s.desk.settings := by
  unfold State.panelMove; (repeat' split) <;> simp
@[simp] theorem panelMove_desk_standby (s : State) (o : Origin) (i k : Nat) : (s.panelMove o i k).1.desk.standby = s.desk.standby := by
  unfold State.panelMove; (repeat' split) <;> simp

@[simp] theorem deskMove_desk_bus (s : State) (i k : Nat) : (s.deskMove i k).1.desk.bus = s.desk.bus := by
  unfold State.deskMove; (repeat' split) <;> simp
@[simp] theorem deskMove_desk_busAddress (s : State) (i k : Nat) : (s.deskMove i k).1.desk.busAddress = s.desk.busAddress := by
  unfold State.deskMove; (repeat' split) <;> simp
@[simp] theorem deskMove_desk_busTimer (s : State) (i k : Nat) : (s.deskMove i k).1.desk.busTimer = s.desk.busTimer := by
  unfold State.deskMove; (repeat' split) <;> simp
@[simp] theorem deskMove_desk_reply (s : State) (i k : Nat) : (s.deskMove i k).1.desk.reply = s.desk.reply := by
  unfold State.deskMove; (repeat' split) <;> simp
@[simp] theorem deskMove_desk_mask (s : State) (i k : Nat) : (s.deskMove i k).1.desk.mask = s.desk.mask := by
  unfold State.deskMove; (repeat' split) <;> simp
@[simp] theorem deskMove_desk_settings (s : State) (i k : Nat) : (s.deskMove i k).1.desk.settings = s.desk.settings := by
  unfold State.deskMove; (repeat' split) <;> simp
@[simp] theorem deskMove_desk_standby (s : State) (i k : Nat) : (s.deskMove i k).1.desk.standby = s.desk.standby := by
  unfold State.deskMove; (repeat' split) <;> simp

@[simp] theorem promoteId_desk_bus (s : State) (i : Nat) : (s.promoteId i).1.desk.bus = s.desk.bus := by
  unfold State.promoteId; (repeat' split) <;> simp
@[simp] theorem promoteId_desk_busAddress (s : State) (i : Nat) : (s.promoteId i).1.desk.busAddress = s.desk.busAddress := by
  unfold State.promoteId; (repeat' split) <;> simp
@[simp] theorem promoteId_desk_busTimer (s : State) (i : Nat) : (s.promoteId i).1.desk.busTimer = s.desk.busTimer := by
  unfold State.promoteId; (repeat' split) <;> simp
@[simp] theorem promoteId_desk_reply (s : State) (i : Nat) : (s.promoteId i).1.desk.reply = s.desk.reply := by
  unfold State.promoteId; (repeat' split) <;> simp
@[simp] theorem promoteId_desk_mask (s : State) (i : Nat) : (s.promoteId i).1.desk.mask = s.desk.mask := by
  unfold State.promoteId; (repeat' split) <;> simp
@[simp] theorem promoteId_desk_settings (s : State) (i : Nat) : (s.promoteId i).1.desk.settings = s.desk.settings := by
  unfold State.promoteId; (repeat' split) <;> simp
@[simp] theorem promoteId_desk_standby (s : State) (i : Nat) : (s.promoteId i).1.desk.standby = s.desk.standby := by
  unfold State.promoteId; (repeat' split) <;> simp

@[simp] theorem removeId_desk_bus (s : State) (i : Nat) : (s.removeId i).1.desk.bus = s.desk.bus := by
  unfold State.removeId; (repeat' split) <;> simp
@[simp] theorem removeId_desk_busAddress (s : State) (i : Nat) : (s.removeId i).1.desk.busAddress = s.desk.busAddress := by
  unfold State.removeId; (repeat' split) <;> simp
@[simp] theorem removeId_desk_busTimer (s : State) (i : Nat) : (s.removeId i).1.desk.busTimer = s.desk.busTimer := by
  unfold State.removeId; (repeat' split) <;> simp
@[simp] theorem removeId_desk_reply (s : State) (i : Nat) : (s.removeId i).1.desk.reply = s.desk.reply := by
  unfold State.removeId; (repeat' split) <;> simp
@[simp] theorem removeId_desk_mask (s : State) (i : Nat) : (s.removeId i).1.desk.mask = s.desk.mask := by
  unfold State.removeId; (repeat' split) <;> simp
@[simp] theorem removeId_desk_settings (s : State) (i : Nat) : (s.removeId i).1.desk.settings = s.desk.settings := by
  unfold State.removeId; (repeat' split) <;> simp
@[simp] theorem removeId_desk_standby (s : State) (i : Nat) : (s.removeId i).1.desk.standby = s.desk.standby := by
  unfold State.removeId; (repeat' split) <;> simp

@[simp] theorem stageCloseEvent_desk_bus (s : State) (i : Nat) : (s.stageCloseEvent i).1.desk.bus = s.desk.bus := by
  unfold State.stageCloseEvent; (repeat' split) <;> simp
@[simp] theorem stageCloseEvent_desk_busAddress (s : State) (i : Nat) : (s.stageCloseEvent i).1.desk.busAddress = s.desk.busAddress := by
  unfold State.stageCloseEvent; (repeat' split) <;> simp
@[simp] theorem stageCloseEvent_desk_busTimer (s : State) (i : Nat) : (s.stageCloseEvent i).1.desk.busTimer = s.desk.busTimer := by
  unfold State.stageCloseEvent; (repeat' split) <;> simp
@[simp] theorem stageCloseEvent_desk_reply (s : State) (i : Nat) : (s.stageCloseEvent i).1.desk.reply = s.desk.reply := by
  unfold State.stageCloseEvent; (repeat' split) <;> simp
@[simp] theorem stageCloseEvent_desk_mask (s : State) (i : Nat) : (s.stageCloseEvent i).1.desk.mask = s.desk.mask := by
  unfold State.stageCloseEvent; (repeat' split) <;> simp
@[simp] theorem stageCloseEvent_desk_settings (s : State) (i : Nat) : (s.stageCloseEvent i).1.desk.settings = s.desk.settings := by
  unfold State.stageCloseEvent; (repeat' split) <;> simp
@[simp] theorem stageCloseEvent_desk_standby (s : State) (i : Nat) : (s.stageCloseEvent i).1.desk.standby = s.desk.standby := by
  unfold State.stageCloseEvent; (repeat' split) <;> simp

@[simp] theorem stageFailEvent_desk_bus (s : State) (i : Nat) : (s.stageFailEvent i).1.desk.bus = s.desk.bus := by
  unfold State.stageFailEvent; (repeat' split) <;> simp
@[simp] theorem stageFailEvent_desk_busAddress (s : State) (i : Nat) : (s.stageFailEvent i).1.desk.busAddress = s.desk.busAddress := by
  unfold State.stageFailEvent; (repeat' split) <;> simp
@[simp] theorem stageFailEvent_desk_busTimer (s : State) (i : Nat) : (s.stageFailEvent i).1.desk.busTimer = s.desk.busTimer := by
  unfold State.stageFailEvent; (repeat' split) <;> simp
@[simp] theorem stageFailEvent_desk_reply (s : State) (i : Nat) : (s.stageFailEvent i).1.desk.reply = s.desk.reply := by
  unfold State.stageFailEvent; (repeat' split) <;> simp
@[simp] theorem stageFailEvent_desk_mask (s : State) (i : Nat) : (s.stageFailEvent i).1.desk.mask = s.desk.mask := by
  unfold State.stageFailEvent; (repeat' split) <;> simp
@[simp] theorem stageFailEvent_desk_settings (s : State) (i : Nat) : (s.stageFailEvent i).1.desk.settings = s.desk.settings := by
  unfold State.stageFailEvent; (repeat' split) <;> simp
@[simp] theorem stageFailEvent_desk_standby (s : State) (i : Nat) : (s.stageFailEvent i).1.desk.standby = s.desk.standby := by
  unfold State.stageFailEvent; (repeat' split) <;> simp

@[simp] theorem takeEnd_desk_bus (s : State) (m : Nat) : (s.takeEnd m).1.desk.bus = s.desk.bus := by
  unfold State.takeEnd; (repeat' split) <;> simp
@[simp] theorem takeEnd_desk_busAddress (s : State) (m : Nat) : (s.takeEnd m).1.desk.busAddress = s.desk.busAddress := by
  unfold State.takeEnd; (repeat' split) <;> simp
@[simp] theorem takeEnd_desk_busTimer (s : State) (m : Nat) : (s.takeEnd m).1.desk.busTimer = s.desk.busTimer := by
  unfold State.takeEnd; (repeat' split) <;> simp
@[simp] theorem takeEnd_desk_reply (s : State) (m : Nat) : (s.takeEnd m).1.desk.reply = s.desk.reply := by
  unfold State.takeEnd; (repeat' split) <;> simp
@[simp] theorem takeEnd_desk_mask (s : State) (m : Nat) : (s.takeEnd m).1.desk.mask = s.desk.mask := by
  unfold State.takeEnd; (repeat' split) <;> simp
@[simp] theorem takeEnd_desk_settings (s : State) (m : Nat) : (s.takeEnd m).1.desk.settings = s.desk.settings := by
  unfold State.takeEnd; (repeat' split) <;> simp
@[simp] theorem takeEnd_desk_standby (s : State) (m : Nat) : (s.takeEnd m).1.desk.standby = s.desk.standby := by
  unfold State.takeEnd; (repeat' split) <;> simp

@[simp] theorem takeMark_desk_bus (s : State) (i m : Nat) (k : Byte) : (s.takeMark i m k).1.desk.bus = s.desk.bus := by
  unfold State.takeMark; (repeat' split) <;> simp
@[simp] theorem takeMark_desk_busAddress (s : State) (i m : Nat) (k : Byte) : (s.takeMark i m k).1.desk.busAddress = s.desk.busAddress := by
  unfold State.takeMark; (repeat' split) <;> simp
@[simp] theorem takeMark_desk_busTimer (s : State) (i m : Nat) (k : Byte) : (s.takeMark i m k).1.desk.busTimer = s.desk.busTimer := by
  unfold State.takeMark; (repeat' split) <;> simp
@[simp] theorem takeMark_desk_reply (s : State) (i m : Nat) (k : Byte) : (s.takeMark i m k).1.desk.reply = s.desk.reply := by
  unfold State.takeMark; (repeat' split) <;> simp
@[simp] theorem takeMark_desk_mask (s : State) (i m : Nat) (k : Byte) : (s.takeMark i m k).1.desk.mask = s.desk.mask := by
  unfold State.takeMark; (repeat' split) <;> simp
@[simp] theorem takeMark_desk_settings (s : State) (i m : Nat) (k : Byte) : (s.takeMark i m k).1.desk.settings = s.desk.settings := by
  unfold State.takeMark; (repeat' split) <;> simp
@[simp] theorem takeMark_desk_standby (s : State) (i m : Nat) (k : Byte) : (s.takeMark i m k).1.desk.standby = s.desk.standby := by
  unfold State.takeMark; (repeat' split) <;> simp

@[simp] theorem skipEvent_desk_bus (s : State) (i : Nat) : (s.skipEvent i).1.desk.bus = s.desk.bus := by
  unfold State.skipEvent; (repeat' split) <;> simp
@[simp] theorem skipEvent_desk_busAddress (s : State) (i : Nat) : (s.skipEvent i).1.desk.busAddress = s.desk.busAddress := by
  unfold State.skipEvent; (repeat' split) <;> simp
@[simp] theorem skipEvent_desk_busTimer (s : State) (i : Nat) : (s.skipEvent i).1.desk.busTimer = s.desk.busTimer := by
  unfold State.skipEvent; (repeat' split) <;> simp
@[simp] theorem skipEvent_desk_reply (s : State) (i : Nat) : (s.skipEvent i).1.desk.reply = s.desk.reply := by
  unfold State.skipEvent; (repeat' split) <;> simp
@[simp] theorem skipEvent_desk_mask (s : State) (i : Nat) : (s.skipEvent i).1.desk.mask = s.desk.mask := by
  unfold State.skipEvent; (repeat' split) <;> simp
@[simp] theorem skipEvent_desk_settings (s : State) (i : Nat) : (s.skipEvent i).1.desk.settings = s.desk.settings := by
  unfold State.skipEvent; (repeat' split) <;> simp
@[simp] theorem skipEvent_desk_standby (s : State) (i : Nat) : (s.skipEvent i).1.desk.standby = s.desk.standby := by
  unfold State.skipEvent; (repeat' split) <;> simp

@[simp] theorem stopSongEvent_desk_bus (s : State) : (s.stopSongEvent).1.desk.bus = s.desk.bus := by
  unfold State.stopSongEvent; (repeat' split) <;> simp
@[simp] theorem stopSongEvent_desk_busAddress (s : State) : (s.stopSongEvent).1.desk.busAddress = s.desk.busAddress := by
  unfold State.stopSongEvent; (repeat' split) <;> simp
@[simp] theorem stopSongEvent_desk_busTimer (s : State) : (s.stopSongEvent).1.desk.busTimer = s.desk.busTimer := by
  unfold State.stopSongEvent; (repeat' split) <;> simp
@[simp] theorem stopSongEvent_desk_reply (s : State) : (s.stopSongEvent).1.desk.reply = s.desk.reply := by
  unfold State.stopSongEvent; (repeat' split) <;> simp
@[simp] theorem stopSongEvent_desk_mask (s : State) : (s.stopSongEvent).1.desk.mask = s.desk.mask := by
  unfold State.stopSongEvent; (repeat' split) <;> simp
@[simp] theorem stopSongEvent_desk_settings (s : State) : (s.stopSongEvent).1.desk.settings = s.desk.settings := by
  unfold State.stopSongEvent; (repeat' split) <;> simp
@[simp] theorem stopSongEvent_desk_standby (s : State) : (s.stopSongEvent).1.desk.standby = s.desk.standby := by
  unfold State.stopSongEvent; (repeat' split) <;> simp

end Sys2Proof.Machine.State
end

