-- ==== Sys2Proof/Laws/Kept.lean ====
section
/-! SUPPORT. One induction over the commands for every property that steps keep: a property that every event of the blocks
keeps is kept by every command, and so by every step.  `KeptByMost` leaves out the few events that lower something (flags
acknowledged, credits set or taken, the room cleared, reset), so that a property which they alone break is covered too. -/

namespace Sys2Proof.Machine

/-- What a property must survive to survive the commands but for the few that lower something: the events at the blocks,
and the updates the lines make around them.  The updates of a line are given with what they leave of the parts other blocks
read. -/
structure KeptByMost (P : State → Prop) : Prop where
  raise : ∀ s f, P s → P (s.raise f)
  panel : ∀ s l u, P s → P (s.setPanel l u)
  port : ∀ s v, v.directive = s.port.directive → P s → P (s.setPort v)
  desk : ∀ s v, v.settings = s.desk.settings → v.standby = s.desk.standby → v.flags = s.desk.flags → P s →
    P (s.setDesk v)
  frontTick : ∀ s, P s → P (s.setFront s.front.tick)
  settled : ∀ s, s.front.activity = .settling → P s → P (s.setFront s.front.settled)
  conversion : ∀ s openAt closeBelow v, P s → P (s.setFront (s.front.complete openAt closeBelow v))
  edge : ∀ s m counts, s.front.activity = .on → P s → P (s.setFront (s.front.setMic m ((s.front.mic m).takeEdge counts).1))
  resetUnit : ∀ s v, P s → P (s.setResetUnit v)
  leaveStandby : ∀ s, s.desk.standby = true → P s → P s.leaveStandby
  standby : ∀ s, P s → P s.standbyEvent.1
  submit : ∀ s o b r, P s → P (s.submit o b r).1
  cancel : ∀ s o i, P s → P (s.cancel o i).1
  panelMove : ∀ s o i k, P s → P (s.panelMove o i k).1
  deskMove : ∀ s i k, P s → P (s.deskMove i k).1
  promote : ∀ s i, P s → P (s.promoteId i).1
  remove : ∀ s i, P s → P (s.removeId i).1
  addCredits : ∀ s v, P s → P (s.accountEvent (s.room.addCredits v))
  setUnlimited : ∀ s b, P s → P (s.accountEvent (s.room.setUnlimited b))
  lock : ∀ s, P s → P s.lockRoom
  unlock : ∀ s, P s → P s.unlockRoom
  configure : ∀ s item v, P s → P (configure s item v)
  newSession : ∀ s, P s → P (s.setResults Results.newSession)
  stageOpen : ∀ s h, P s → P (s.stageOpenEvent h).1
  stageLine : ∀ s l, P s → P (s.stageLineEvent l).1
  stageNote : ∀ s n, P s → P (s.stageNoteEvent n).1
  stageClose : ∀ s i, P s → P (s.stageCloseEvent i).1
  stageFail : ∀ s i, P s → P (s.stageFailEvent i).1
  hold : ∀ s, P s → P s.holdEvent.1
  go : ∀ s, P s → P s.goEvent.1
  key : ∀ s d, P s → P (s.keyEvent d).1
  skip : ∀ s i, P s → P (s.skipEvent i).1
  stopSong : ∀ s, P s → P s.stopSongEvent.1
  tick : ∀ s, P s → P (tickDeck s)
  stall : ∀ s, s.deck.stallDue = true → P s → P (stallExpiry s)
  startExpiry : ∀ s, s.deck.state = .starting → P s → P (s.endSong .noStart).post
  limitExpiry : ∀ s, s.deck.state = .stalled → P s → P ((s.endSong .mediaLost).raise .mediaLost).post
  stopExpiry : ∀ s, s.deck.state = .stopping → P s → P s.idleEvent
  lyricTake : ∀ s a rest, s.lyric.inbox = a :: rest → P s →
    P (s.setLyric ({ s.lyric with inbox := rest }.take s.store.playing a))
  graderTake : ∀ s a rest, s.grader.inbox = a :: rest → P s →
    P (s.setGrader ({ s.grader with inbox := rest }.take s.store.playing.notes s.deck.key a))
  scene : ∀ s, P s → P (sceneLyric s)
  lyricNewSong : ∀ s, P s → P s.lyricNewSong
  lyricDropSong : ∀ s, P s → P s.lyricDropSong
  graderNewSong : ∀ s, P s → P s.graderNewSong
  finalScores : ∀ s t, P s → P (s.graderFinalScores t)
  songEnded : ∀ s, P s → P s.graderSongEnded
  discard : ∀ s, P s → P s.graderDiscard
  sample : ∀ s m p, P s → P (s.routeSample m p)

/-- What a property must survive to survive every command. -/
structure Kept (P : State → Prop) : Prop extends KeptByMost P where
  queue : ∀ s q, P s → P (s.setPending q)
  flags : ∀ s v, v.settings = s.desk.settings → v.standby = s.desk.standby → P s → P (s.setDesk v)
  afterReset : ∀ s pins, P s → P (afterReset pins s)
  setCredits : ∀ s v, P s → P (s.accountEvent (s.room.setCredits v))
  roomClear : ∀ s, P s → P s.roomClearEvent
  mark : ∀ s i m k, P s → P (s.takeMark i m k).1

/-- The kind that a check lets through is the kind byte's. -/
theorem portCheck_kind {kind : Byte} {p : List Byte} {check : Byte} {k : MediaKind} (h : portCheck kind p check = .ok k) :
    kind = k.code := by
  unfold portCheck at h
  repeat' split at h
  all_goals cases h
  rename_i hk _
  exact (beq_iff_eq.1 (List.find?_some (p := fun k : MediaKind => k.code == kind) hk)).symm

theorem deskCheck_kind {kind : Byte} {p : List Byte} {k : DeskKind} (h : deskCheck kind p = .ok k) : kind = k.code := by
  unfold deskCheck at h
  repeat' split at h
  all_goals cases h
  rename_i hk _
  exact (beq_iff_eq.1 (List.find?_some (p := fun k : DeskKind => k.code == kind) hk)).symm

namespace KeptByMost

variable {P : State → Prop} (h : KeptByMost P)

theorem live {s : State} {f : State → State} (hf : ∀ s, P s → P (f s)) (hs : P s) : P (s.live f) := by
  unfold State.live
  split
  · exact hf s hs
  · exact hs

include h

theorem panelOwner {k : PanelKind} {l : PanelLine} {p : List Byte} {s : State} (hs : P s) : P (panelOwner k l p s).1 := by
  cases k
  case askSong => exact h.submit _ _ _ _ hs
  case dropEntry => exact h.cancel _ _ _ hs
  case shiftEntry => exact h.panelMove _ _ _ _ hs
  case skipNow => exact h.skip _ _ hs
  case hold => exact h.hold _ hs
  case go => exact h.go _ hs
  case key => exact h.key _ _ hs
  case peekQueue => exact hs
  case peekNow => exact hs
  case peekPast => exact hs

theorem dispatchFrame {l : PanelLine} {kind : Byte} {p : List Byte} {s : State} (hs : P s) :
    P (dispatchFrame l kind p s) := by
  unfold Machine.dispatchFrame sendReply
  split
  · exact h.panel _ _ _ hs
  · split
    · exact h.panel _ _ _ hs
    · exact h.panel _ _ _ (h.panelOwner hs)

theorem takeFrame {l : PanelLine} {kind : Byte} {p : List Byte} {s : State} (hs : P s) : P (takeFrame l kind p s) := by
  unfold Machine.takeFrame
  dsimp only
  split
  · exact h.raise _ _ (h.panel _ _ _ hs)
  split
  · exact h.dispatchFrame (h.panel _ _ _ hs)
  split
  · rename_i hsb _
    exact h.dispatchFrame (h.leaveStandby _ (by simpa using hsb) (h.panel _ _ _ hs))
  · exact h.panel _ _ _ (h.panel _ _ _ hs)

theorem mediaOwner {k : MediaKind} {p : List Byte} (hmark : k = .timeMark → ∀ s, P s → P (timeMarkCommand p s).1)
    {s : State} (hs : P s) : P (mediaOwner k p s).1 := by
  cases k
  case stageOpen => exact h.stageOpen _ _ hs
  case line => exact h.stageLine _ _ hs
  case note => exact h.stageNote _ _ hs
  case stageClose => exact h.stageClose _ _ hs
  case stageFail => exact h.stageFail _ _ hs
  case timeMark => exact hmark rfl _ hs
  case readDirective => exact hs
  case ackDirective =>
    unfold Machine.mediaOwner ackDirectiveCommand
    dsimp only
    split
    · exact h.port _ _ rfl hs
    · exact hs
  case readScene =>
    unfold Machine.mediaOwner readSceneCommand
    dsimp only
    split
    · exact hs
    · exact h.scene _ hs
  case repeatAnswer => exact hs

theorem takeCommand {kind : Byte} {p : List Byte} {check : Byte}
    (hmark : kind = MediaKind.timeMark.code → ∀ s, P s → P (timeMarkCommand p s).1) {s : State} (hs : P s) :
    P (takeCommand kind p check s) := by
  unfold Machine.takeCommand answerWith
  split
  · exact hs
  split
  · exact h.port _ _ rfl hs
  · rename_i k hk
    refine h.port _ _ rfl (h.mediaOwner (fun hm => hmark ?_) hs)
    subst hm
    exact portCheck_kind hk

theorem deskOwner {k : DeskKind} {p : List Byte} (hack : k = .ackEvents → ∀ s, P s → P (ackEventsCommand p s).1)
    (hset : k = .creditsSet → ∀ s, P s → P (creditsSetCommand p s).1)
    (hclear : k = .roomClear → ∀ s, P s → P s.roomClearEvent) {s : State} (hs : P s) : P (deskOwner k p s).1 := by
  cases k
  case status => exact hs
  case readEvents => exact hs
  case ackEvents => exact hack rfl _ hs
  case eventMask => exact h.desk _ _ rfl rfl rfl hs
  case creditsSet => exact hset rfl _ hs
  case creditsAdd => exact h.addCredits _ _ hs
  case creditsUnlimited => exact h.setUnlimited _ _ hs
  case lock => exact h.lock _ hs
  case unlock => exact h.unlock _ hs
  case configSet =>
    unfold Machine.deskOwner configSetCommand
    dsimp only
    split
    · exact hs
    · exact h.configure _ _ _ hs
  case configRead => exact hs
  case insertPriority => exact h.submit _ _ _ _ hs
  case promote => exact h.promote _ _ hs
  case move => exact h.deskMove _ _ _ hs
  case remove => exact h.remove _ _ hs
  case stopSong => exact h.stopSong _ hs
  case readQueue => exact hs
  case readHistory => exact hs
  case readBoard => exact hs
  case readLineCounters =>
    unfold Machine.deskOwner readLineCountersCommand
    dsimp only
    split
    · exact h.panel _ .b _ (h.panel _ .a _ hs)
    · exact hs
  case newSession =>
    unfold Machine.deskOwner newSessionCommand
    dsimp only
    split
    · exact h.newSession _ hs
    · exact h.raise _ _ (h.newSession _ hs)
  case roomClear => exact hclear rfl _ hs
  case standby => exact h.standby _ hs
  case wake =>
    unfold Machine.deskOwner wakeCommand
    dsimp only
    split
    · exact h.leaveStandby _ ‹_› hs
    · exact hs
  case deskReset => exact h.resetUnit _ _ hs

theorem takeWrite {kind : Byte} {p : List Byte}
    (hack : kind = DeskKind.ackEvents.code → ∀ s, P s → P (ackEventsCommand p s).1)
    (hset : kind = DeskKind.creditsSet.code → ∀ s, P s → P (creditsSetCommand p s).1)
    (hclear : kind = DeskKind.roomClear.code → ∀ s, P s → P s.roomClearEvent) {s : State} (hs : P s) :
    P (takeWrite kind p s) := by
  unfold Machine.takeWrite replyWith
  split
  · exact hs
  dsimp only
  split
  · exact h.desk _ _ rfl rfl rfl (h.desk _ _ rfl rfl rfl hs)
  · rename_i k hk
    have hkind := deskCheck_kind hk
    refine h.desk _ _ rfl rfl rfl (h.deskOwner (fun hm => hack ?_) (fun hm => hset ?_) (fun hm => hclear ?_)
      (h.desk _ _ rfl rfl rfl hs)) <;> rw [hkind, hm]

theorem takeCharacter {l : PanelLine} {r : Received} {s : State} (hs : P s) : P (takeCharacter l r s) := by
  unfold Machine.takeCharacter
  dsimp only
  split
  · exact h.raise _ _ (h.panel _ _ _ hs)
  · exact h.takeFrame (h.panel _ _ _ hs)
  · exact h.panel _ _ _ hs

theorem fullTick {s : State} (hs : P s) : P (Machine.tick s) := by
  unfold Machine.tick tickDesk
  refine h.tick _ ?_
  have hf : P (s.setFront s.front.tick) := h.frontTick _ hs
  split
  · exact hf
  · exact h.desk _ _ rfl rfl rfl hf

theorem clockLines {s : State} (hs : P s) : P s.clockLines :=
  h.desk _ _ (DeskUnit.clockFall_settings _) (DeskUnit.clockFall_standby _) (DeskUnit.clockFall_flags _)
    (h.port _ _ (MediaPort.clockByte_directive _) hs)

theorem takeEdge {m : Mic} {counts : Nat} {s : State} (ha : s.front.activity = .on) (hs : P s) :
    P (takeEdge m counts s) := by
  have hf : P (s.setFront (s.front.setMic m ((s.front.mic m).takeEdge counts).1)) :=
    h.edge _ _ _ ha hs
  unfold Machine.takeEdge
  dsimp only
  split
  · exact hf
  · exact h.sample _ _ _ hf

/-- A command keeps the property, when the command itself does where it is one of those left out. -/
theorem exec {c : Instr}
    (hmark : ∀ p check, c = .timeMarkRun p check ∨ c = .timeMarkEnd p check ∨
      c = .mediaUnknownKind MediaKind.timeMark.code p check → ∀ s, P s → P (timeMarkCommand p s).1)
    (hack : ∀ p, c = .ackEvents p ∨ c = .deskUnknownKind DeskKind.ackEvents.code p →
      ∀ s, P s → P (ackEventsCommand p s).1)
    (hset : ∀ p, c = .creditsSet p ∨ c = .deskUnknownKind DeskKind.creditsSet.code p →
      ∀ s, P s → P (creditsSetCommand p s).1)
    (hclear : ∀ p, c = .roomClear p ∨ c = .deskUnknownKind DeskKind.roomClear.code p →
      ∀ s, P s → P s.roomClearEvent)
    (hreset : ∀ pins, c = .leavingReset pins → ∀ s, P s → P (Machine.afterReset pins s))
    {s t : State} (hs : P s) (he : Machine.exec c s = .next t) : P t := by
  cases c <;> simp only [Machine.exec] at he
  case panelBreak l =>
    simp only [execPanelBreak, Host.Outcome.next.injEq] at he
    subst he
    repeat' split
    · exact h.raise _ _ (h.panel _ _ _ hs)
    · exact h.panel _ _ _ hs
    · exact hs
    · exact h.panel _ _ _ hs
  case panelCharacter l x y z =>
    simp only [execPanelCharacter, Host.Outcome.next.injEq] at he
    subst he
    refine live (fun s hs => ?_) hs
    split
    · exact hs
    · split
      · exact h.takeCharacter hs
      · exact hs
  case gap l =>
    simp only [execGap, Host.Outcome.next.injEq] at he
    subst he
    refine live (fun s hs => ?_) hs
    split
    · exact h.raise _ _ (h.panel _ _ _ hs)
    · exact hs
  case askSong => cases he; exact live (fun s hs => h.takeFrame hs) hs
  case dropEntry => cases he; exact live (fun s hs => h.takeFrame hs) hs
  case shiftEntry => cases he; exact live (fun s hs => h.takeFrame hs) hs
  case skipNow => cases he; exact live (fun s hs => h.takeFrame hs) hs
  case hold => cases he; exact live (fun s hs => h.takeFrame hs) hs
  case go => cases he; exact live (fun s hs => h.takeFrame hs) hs
  case key => cases he; exact live (fun s hs => h.takeFrame hs) hs
  case peekQueue => cases he; exact live (fun s hs => h.takeFrame hs) hs
  case peekNow => cases he; exact live (fun s hs => h.takeFrame hs) hs
  case peekPast => cases he; exact live (fun s hs => h.takeFrame hs) hs
  case panelUnknownKind => cases he; exact live (fun s hs => h.takeFrame hs) hs
  case shiftCompletion => cases he; exact live (fun s hs => h.panel _ _ _ hs) hs
  case msnFall =>
    simp only [execMsnFall, Host.Outcome.next.injEq] at he
    subst he
    repeat' split
    · exact h.port _ _ rfl hs
    · exact hs
    · exact h.port _ _ rfl hs
  case msnRise =>
    simp only [execMsnRise, Host.Outcome.next.injEq] at he
    subst he
    repeat' split
    · exact hs
    · exact h.port _ _ rfl hs
    · exact h.port _ _ rfl hs
  case stageOpen => cases he; exact live (fun s hs => h.takeCommand (absurd · (by decide)) hs) hs
  case line => cases he; exact live (fun s hs => h.takeCommand (absurd · (by decide)) hs) hs
  case note => cases he; exact live (fun s hs => h.takeCommand (absurd · (by decide)) hs) hs
  case stageClose => cases he; exact live (fun s hs => h.takeCommand (absurd · (by decide)) hs) hs
  case stageFail => cases he; exact live (fun s hs => h.takeCommand (absurd · (by decide)) hs) hs
  case timeMarkRun p check =>
    cases he
    exact live (fun s hs => h.takeCommand (fun _ => hmark p check (.inl rfl)) hs) hs
  case timeMarkEnd p check =>
    cases he
    exact live (fun s hs => h.takeCommand (fun _ => hmark p check (.inr (.inl rfl))) hs) hs
  case readDirective => cases he; exact live (fun s hs => h.takeCommand (absurd · (by decide)) hs) hs
  case ackDirective => cases he; exact live (fun s hs => h.takeCommand (absurd · (by decide)) hs) hs
  case readScene => cases he; exact live (fun s hs => h.takeCommand (absurd · (by decide)) hs) hs
  case repeatAnswer => cases he; exact live (fun s hs => h.takeCommand (absurd · (by decide)) hs) hs
  case mediaUnknownKind kind p check =>
    cases he
    exact live (fun s hs => h.takeCommand (fun hk => hmark p check (.inr (.inr (by rw [hk])))) hs) hs
  case millisecondTick =>
    cases he
    split
    · exact h.fullTick hs
    · exact h.resetUnit _ _ hs
  case startTimerExpiry =>
    cases he
    refine live (fun s hs => ?_) hs
    split
    · exact h.startExpiry _ (And.left ‹_›) hs
    · exact hs
  case stallTimerExpiry =>
    cases he
    refine live (fun s hs => ?_) hs
    split
    · exact h.fullTick hs
    · split
      · exact h.stall _ ‹_› hs
      · exact hs
  case stallLimitExpiry =>
    cases he
    refine live (fun s hs => ?_) hs
    split
    · exact h.limitExpiry _ (And.left ‹_›) hs
    · exact hs
  case stopTimerExpiry =>
    cases he
    refine live (fun s hs => ?_) hs
    split
    · exact h.stopExpiry _ (And.left ‹_›) hs
    · exact hs
  case lyricStep =>
    cases he
    refine live (fun s hs => ?_) hs
    split
    · exact hs
    · split
      · exact h.lyricTake _ _ _ ‹_› hs
      · exact hs
  case lyricRebuild =>
    cases he
    refine live (fun s hs => ?_) hs
    split
    · exact hs
    · split
      · exact hs
      · exact h.lyricTake _ _ _ ‹_› hs
  case lyricNewSong => cases he; exact live h.lyricNewSong hs
  case lyricDropSong => cases he; exact live h.lyricDropSong hs
  case graderStep =>
    cases he
    refine live (fun s hs => ?_) hs
    split
    · exact hs
    · split
      · exact hs
      · exact h.graderTake _ _ _ ‹_› hs
  case graderRewind =>
    cases he
    refine live (fun s hs => ?_) hs
    split
    · exact hs
    · split
      · exact h.graderTake _ _ _ ‹_› hs
      · exact hs
  case graderNewSong => cases he; exact live h.graderNewSong hs
  case graderFinalScores => cases he; exact live (fun s hs => h.finalScores _ _ hs) hs
  case graderSongEnded => cases he; exact live h.songEnded hs
  case graderDiscard => cases he; exact live h.discard hs
  case conversionCompletion =>
    cases he
    exact live (fun s hs => h.conversion _ _ _ _ hs) hs
  case zeroCrossEdge =>
    cases he
    refine live (fun s hs => ?_) hs
    split
    · exact h.takeEdge ‹_› hs
    · exact hs
  case settleTimerExpiry =>
    cases he
    refine live (fun s hs => ?_) hs
    split
    · exact h.settled _ (And.left ‹_›) hs
    · exact hs
  case deskBusTimeout =>
    cases he
    refine live (fun s hs => ?_) hs
    split
    · exact h.raise _ _ (h.desk _ _ rfl rfl rfl hs)
    · exact hs
  case status => cases he; exact live (fun s hs => h.takeWrite (absurd · (by decide)) (absurd · (by decide)) (absurd · (by decide)) hs) hs
  case readEvents => cases he; exact live (fun s hs => h.takeWrite (absurd · (by decide)) (absurd · (by decide)) (absurd · (by decide)) hs) hs
  case ackEvents p =>
    cases he
    exact live (fun s hs => h.takeWrite (fun _ => hack p (.inl rfl)) (absurd · (by decide)) (absurd · (by decide)) hs) hs
  case eventMask => cases he; exact live (fun s hs => h.takeWrite (absurd · (by decide)) (absurd · (by decide)) (absurd · (by decide)) hs) hs
  case creditsSet p =>
    cases he
    exact live (fun s hs => h.takeWrite (absurd · (by decide)) (fun _ => hset p (.inl rfl)) (absurd · (by decide)) hs) hs
  case creditsAdd => cases he; exact live (fun s hs => h.takeWrite (absurd · (by decide)) (absurd · (by decide)) (absurd · (by decide)) hs) hs
  case creditsUnlimited => cases he; exact live (fun s hs => h.takeWrite (absurd · (by decide)) (absurd · (by decide)) (absurd · (by decide)) hs) hs
  case lock => cases he; exact live (fun s hs => h.takeWrite (absurd · (by decide)) (absurd · (by decide)) (absurd · (by decide)) hs) hs
  case unlock => cases he; exact live (fun s hs => h.takeWrite (absurd · (by decide)) (absurd · (by decide)) (absurd · (by decide)) hs) hs
  case configSet => cases he; exact live (fun s hs => h.takeWrite (absurd · (by decide)) (absurd · (by decide)) (absurd · (by decide)) hs) hs
  case configRead => cases he; exact live (fun s hs => h.takeWrite (absurd · (by decide)) (absurd · (by decide)) (absurd · (by decide)) hs) hs
  case insertPriority => cases he; exact live (fun s hs => h.takeWrite (absurd · (by decide)) (absurd · (by decide)) (absurd · (by decide)) hs) hs
  case promote => cases he; exact live (fun s hs => h.takeWrite (absurd · (by decide)) (absurd · (by decide)) (absurd · (by decide)) hs) hs
  case move => cases he; exact live (fun s hs => h.takeWrite (absurd · (by decide)) (absurd · (by decide)) (absurd · (by decide)) hs) hs
  case remove => cases he; exact live (fun s hs => h.takeWrite (absurd · (by decide)) (absurd · (by decide)) (absurd · (by decide)) hs) hs
  case stopSong => cases he; exact live (fun s hs => h.takeWrite (absurd · (by decide)) (absurd · (by decide)) (absurd · (by decide)) hs) hs
  case readQueue => cases he; exact live (fun s hs => h.takeWrite (absurd · (by decide)) (absurd · (by decide)) (absurd · (by decide)) hs) hs
  case readHistory => cases he; exact live (fun s hs => h.takeWrite (absurd · (by decide)) (absurd · (by decide)) (absurd · (by decide)) hs) hs
  case readBoard => cases he; exact live (fun s hs => h.takeWrite (absurd · (by decide)) (absurd · (by decide)) (absurd · (by decide)) hs) hs
  case readLineCounters => cases he; exact live (fun s hs => h.takeWrite (absurd · (by decide)) (absurd · (by decide)) (absurd · (by decide)) hs) hs
  case newSession => cases he; exact live (fun s hs => h.takeWrite (absurd · (by decide)) (absurd · (by decide)) (absurd · (by decide)) hs) hs
  case roomClear p =>
    cases he
    exact live (fun s hs => h.takeWrite (absurd · (by decide)) (absurd · (by decide)) (fun _ => hclear p (.inl rfl)) hs) hs
  case standby => cases he; exact live (fun s hs => h.takeWrite (absurd · (by decide)) (absurd · (by decide)) (absurd · (by decide)) hs) hs
  case wake => cases he; exact live (fun s hs => h.takeWrite (absurd · (by decide)) (absurd · (by decide)) (absurd · (by decide)) hs) hs
  case deskReset => cases he; exact live (fun s hs => h.takeWrite (absurd · (by decide)) (absurd · (by decide)) (absurd · (by decide)) hs) hs
  case deskUnknownKind kind p =>
    cases he
    exact live (fun s hs => h.takeWrite (fun hk => hack p (.inr (by rw [hk]))) (fun hk => hset p (.inr (by rw [hk])))
      (fun hk => hclear p (.inr (by rw [hk]))) hs) hs
  case powerOn => cases he; exact h.resetUnit _ _ hs
  case lowSupply => cases he; exact h.resetUnit _ _ hs
  case resetPin => cases he; exact h.resetUnit _ _ hs
  case leavingReset pins =>
    simp only [execLeavingReset, Host.Outcome.next.injEq] at he
    subst he
    split
    · exact hreset pins rfl _ hs
    · exact hs
  case lineReturnsHigh l =>
    simp only [execLineReturnsHigh, Host.Outcome.next.injEq] at he
    subst he
    split
    · exact h.panel _ _ _ hs
    · exact h.panel _ _ _ hs
  case deskStartCondition =>
    cases he
    refine live (fun s hs => ?_) hs
    dsimp only
    split
    · exact h.desk _ _ rfl rfl rfl hs
    · exact h.desk _ _ rfl rfl rfl hs
  case deskStopCondition => cases he; exact live (fun s hs => h.desk _ _ rfl rfl rfl hs) hs
  case supplyRecovery => cases he; exact h.resetUnit _ _ hs
  case rstnRelease => cases he; exact h.resetUnit _ _ hs

end KeptByMost

namespace Kept

variable {P : State → Prop} (h : Kept P)

include h

/-- Every command keeps the property. -/
theorem exec {c : Instr} {s t : State} (hs : P s) (he : Machine.exec c s = .next t) : P t :=
  h.toKeptByMost.exec (fun _ _ _ _ hs => h.mark _ _ _ _ hs) (fun _ _ _ hs => h.flags _ _ rfl rfl hs)
    (fun _ _ _ hs => h.setCredits _ _ hs) (fun _ _ _ hs => h.roomClear _ hs) (fun _ _ _ hs => h.afterReset _ _ hs) hs he

/-- Every step keeps the property. -/
theorem step {s t : State} (hs : P s) (he : Machine.step s = .next t) : P t := by
  unfold Machine.step at he
  split at he
  · cases he
    exact KeptByMost.live (fun _ hs => h.clockLines hs) hs
  · exact h.exec (h.queue _ _ hs) he

end Kept

end Sys2Proof.Machine
end

