-- ==== Sys2Proof/Laws/Lines.lean ====
section
/-! SUPPORT. What the three lines do around a request: no shared operation reads a panel line unit or the desk bus, and so a
line that takes a request gives its owner's answer over its owner's effect on the state. -/

namespace Sys2Proof.Machine.State

/-- The state with other panel line units and another desk transaction. -/
def withLines (s : State) (u v : PanelUnit) (b : BusState) (k : Option Nat) : State :=
  { s with panelA := u, panelB := v, desk := { s.desk with bus := b, busTimer := k } }

variable (s : State) (u v : PanelUnit) (b : BusState) (k : Option Nat)

@[simp] theorem withLines_pending : (s.withLines u v b k).pending = s.pending := rfl
@[simp] theorem withLines_room : (s.withLines u v b k).room = s.room := rfl
@[simp] theorem withLines_store : (s.withLines u v b k).store = s.store := rfl
@[simp] theorem withLines_deck : (s.withLines u v b k).deck = s.deck := rfl
@[simp] theorem withLines_lyric : (s.withLines u v b k).lyric = s.lyric := rfl
@[simp] theorem withLines_front : (s.withLines u v b k).front = s.front := rfl
@[simp] theorem withLines_grader : (s.withLines u v b k).grader = s.grader := rfl
@[simp] theorem withLines_results : (s.withLines u v b k).results = s.results := rfl
@[simp] theorem withLines_port : (s.withLines u v b k).port = s.port := rfl
@[simp] theorem withLines_resetUnit : (s.withLines u v b k).resetUnit = s.resetUnit := rfl
@[simp] theorem withLines_desk_reply : (s.withLines u v b k).desk.reply = s.desk.reply := rfl
@[simp] theorem withLines_desk_flags : (s.withLines u v b k).desk.flags = s.desk.flags := rfl
@[simp] theorem withLines_desk_mask : (s.withLines u v b k).desk.mask = s.desk.mask := rfl
@[simp] theorem withLines_desk_settings : (s.withLines u v b k).desk.settings = s.desk.settings := rfl
@[simp] theorem withLines_desk_standby : (s.withLines u v b k).desk.standby = s.desk.standby := rfl
@[simp] theorem withLines_desk_busAddress : (s.withLines u v b k).desk.busAddress = s.desk.busAddress := rfl
@[simp] theorem withLines_startReady : (s.withLines u v b k).startReady = s.startReady := rfl
@[simp] theorem withLines_directiveNow : (s.withLines u v b k).directiveNow = s.directiveNow := rfl
@[simp] theorem withLines_ownerSong : (s.withLines u v b k).ownerSong = s.ownerSong := rfl
@[simp] theorem withLines_idsInUse : (s.withLines u v b k).idsInUse = s.idsInUse := rfl
@[simp] theorem withLines_running : (s.withLines u v b k).running = s.running := rfl
@[simp] theorem withLines_setRoom (w : RoomQueue) : (s.withLines u v b k).setRoom w = (s.setRoom w).withLines u v b k := rfl
@[simp] theorem withLines_setStore (w : SongStore) : (s.withLines u v b k).setStore w = (s.setStore w).withLines u v b k := rfl
@[simp] theorem withLines_setDeck (w : Deck) : (s.withLines u v b k).setDeck w = (s.setDeck w).withLines u v b k := rfl
@[simp] theorem withLines_setLyric (w : Sequencer) : (s.withLines u v b k).setLyric w = (s.setLyric w).withLines u v b k := rfl
@[simp] theorem withLines_setFront (w : FrontEnd) : (s.withLines u v b k).setFront w = (s.setFront w).withLines u v b k := rfl
@[simp] theorem withLines_setGrader (w : Grader) : (s.withLines u v b k).setGrader w = (s.setGrader w).withLines u v b k := rfl
@[simp] theorem withLines_setResults (w : Results) : (s.withLines u v b k).setResults w = (s.setResults w).withLines u v b k := rfl
@[simp] theorem withLines_setPort (w : MediaPort) : (s.withLines u v b k).setPort w = (s.setPort w).withLines u v b k := rfl

@[simp] theorem withLines_raise (f : EventFlag) : (s.withLines u v b k).raise f =
    (s.raise f).withLines u v b k := by
  cases f <;> rfl
@[simp] theorem withLines_post : (s.withLines u v b k).post =
    (s.post).withLines u v b k := by
  unfold State.post
  dsimp only
  (repeat' split) <;> simp_all
@[simp] theorem withLines_lyricCatchUp : (s.withLines u v b k).lyricCatchUp =
    (s.lyricCatchUp).withLines u v b k := by
  rfl
@[simp] theorem withLines_graderCatchUp : (s.withLines u v b k).graderCatchUp =
    (s.graderCatchUp).withLines u v b k := by
  rfl
@[simp] theorem withLines_handAdvance (j : AdvanceKind) : (s.withLines u v b k).handAdvance j =
    (s.handAdvance j).withLines u v b k := by
  rfl
@[simp] theorem withLines_lyricNewSong : (s.withLines u v b k).lyricNewSong =
    (s.lyricNewSong).withLines u v b k := by
  rfl
@[simp] theorem withLines_lyricDropSong : (s.withLines u v b k).lyricDropSong =
    (s.lyricDropSong).withLines u v b k := by
  rfl
@[simp] theorem withLines_graderNewSong : (s.withLines u v b k).graderNewSong =
    (s.graderNewSong).withLines u v b k := by
  unfold State.graderNewSong
  (repeat' split) <;> simp_all
@[simp] theorem withLines_graderFinalScores (t : Nat) : (s.withLines u v b k).graderFinalScores t =
    (s.graderFinalScores t).withLines u v b k := by
  rfl
@[simp] theorem withLines_graderSongEnded : (s.withLines u v b k).graderSongEnded =
    (s.graderSongEnded).withLines u v b k := by
  rfl
@[simp] theorem withLines_graderDiscard : (s.withLines u v b k).graderDiscard =
    (s.graderDiscard).withLines u v b k := by
  rfl
@[simp] theorem withLines_startEntry (e : Entry) (rest : List Entry) : (s.withLines u v b k).startEntry e rest =
    (s.startEntry e rest).withLines u v b k := by
  rfl
@[simp] theorem withLines_start : (s.withLines u v b k).start =
    (s.start).withLines u v b k := by
  unfold State.start
  (repeat' split) <;> simp_all
@[simp] theorem withLines_noteShortage : (s.withLines u v b k).noteShortage =
    (s.noteShortage).withLines u v b k := by
  unfold State.noteShortage
  dsimp only
  (repeat' split) <;> simp_all
@[simp] theorem withLines_reexamine : (s.withLines u v b k).reexamine =
    (s.reexamine).withLines u v b k := by
  unfold State.reexamine
  (repeat' split) <;> simp_all
@[simp] theorem withLines_reexamineEvent : (s.withLines u v b k).reexamineEvent =
    (s.reexamineEvent).withLines u v b k := by
  unfold State.reexamineEvent
  (repeat' split) <;> simp_all
@[simp] theorem withLines_headEvent (before : Option Nat) : (s.withLines u v b k).headEvent before =
    (s.headEvent before).withLines u v b k := by
  unfold State.headEvent
  (repeat' split) <;> simp_all
@[simp] theorem withLines_queueEvent (q : RoomQueue) : (s.withLines u v b k).queueEvent q =
    (s.queueEvent q).withLines u v b k := by
  unfold State.queueEvent
  simp
@[simp] theorem withLines_accountEvent (q : RoomQueue) : (s.withLines u v b k).accountEvent q =
    (s.accountEvent q).withLines u v b k := by
  unfold State.accountEvent
  (repeat' split) <;> simp_all
@[simp] theorem withLines_lockRoom : (s.withLines u v b k).lockRoom =
    (s.lockRoom).withLines u v b k := by
  rfl
@[simp] theorem withLines_unlockRoom : (s.withLines u v b k).unlockRoom =
    (s.unlockRoom).withLines u v b k := by
  unfold State.unlockRoom
  simp
@[simp] theorem withLines_addRecord (r : HistoryRecord) : (s.withLines u v b k).addRecord r =
    (s.addRecord r).withLines u v b k := by
  unfold State.addRecord
  dsimp only
  (repeat' split) <;> simp_all
@[simp] theorem withLines_finalise (o : SongOutcome) (t : Nat) : (s.withLines u v b k).finalise o t =
    (s.finalise o t).withLines u v b k := by
  unfold State.finalise
  dsimp only
  (repeat' split) <;> simp_all
@[simp] theorem withLines_idleEvent : (s.withLines u v b k).idleEvent =
    (s.idleEvent).withLines u v b k := by
  unfold State.idleEvent
  simp
@[simp] theorem withLines_endSong (o : SongOutcome) : (s.withLines u v b k).endSong o =
    (s.endSong o).withLines u v b k := by
  unfold State.endSong
  simp
  rfl
@[simp] theorem withLines_clearDeck : (s.withLines u v b k).clearDeck =
    (s.clearDeck).withLines u v b k := by
  unfold State.clearDeck
  dsimp only
  (repeat' split) <;> simp_all
@[simp] theorem withLines_roomClearEvent : (s.withLines u v b k).roomClearEvent =
    (s.roomClearEvent).withLines u v b k := by
  unfold State.roomClearEvent
  simp
@[simp] theorem withLines_leaveStandby : (s.withLines u v b k).leaveStandby =
    s.leaveStandby.withLines u v b k := by
  have h : (s.withLines u v b k).setDesk { (s.withLines u v b k).desk with standby := false } =
    (s.setDesk { s.desk with standby := false }).withLines u v b k := rfl
  unfold State.leaveStandby
  rw [h]
  simp
@[simp] theorem withLines_routeSample (m : Mic) (p : Nat) : (s.withLines u v b k).routeSample m p =
    (s.routeSample m p).withLines u v b k := by
  unfold State.routeSample
  (repeat' split) <;> simp_all
@[simp] theorem withLines_stagingAnswer (c : ResultCode) : (s.withLines u v b k).stagingAnswer c =
    ((s.stagingAnswer c).1.withLines u v b k, (s.stagingAnswer c).2) := by
  unfold State.stagingAnswer
  simp
@[simp] theorem withLines_submit (o : Origin) (c : Bool) (r : SongRequest) : (s.withLines u v b k).submit o c r =
    ((s.submit o c r).1.withLines u v b k, (s.submit o c r).2) := by
  unfold State.submit
  dsimp only
  (repeat' split) <;> simp_all
@[simp] theorem withLines_cancel (o : Origin) (i : Nat) : (s.withLines u v b k).cancel o i =
    ((s.cancel o i).1.withLines u v b k, (s.cancel o i).2) := by
  unfold State.cancel
  (repeat' split) <;> simp_all
@[simp] theorem withLines_moveEntry (e : Entry) (i : Nat) : (s.withLines u v b k).moveEntry e i =
    ((s.moveEntry e i).1.withLines u v b k, (s.moveEntry e i).2) := by
  unfold State.moveEntry
  dsimp only
  (repeat' split) <;> simp_all
@[simp] theorem withLines_panelMove (o : Origin) (i j : Nat) : (s.withLines u v b k).panelMove o i j =
    ((s.panelMove o i j).1.withLines u v b k, (s.panelMove o i j).2) := by
  unfold State.panelMove
  (repeat' split) <;> simp_all
@[simp] theorem withLines_deskMove (i j : Nat) : (s.withLines u v b k).deskMove i j =
    ((s.deskMove i j).1.withLines u v b k, (s.deskMove i j).2) := by
  unfold State.deskMove
  (repeat' split) <;> simp_all
@[simp] theorem withLines_promoteId (i : Nat) : (s.withLines u v b k).promoteId i =
    ((s.promoteId i).1.withLines u v b k, (s.promoteId i).2) := by
  unfold State.promoteId
  (repeat' split) <;> simp_all
@[simp] theorem withLines_removeId (i : Nat) : (s.withLines u v b k).removeId i =
    ((s.removeId i).1.withLines u v b k, (s.removeId i).2) := by
  unfold State.removeId
  (repeat' split) <;> simp_all
@[simp] theorem withLines_stageOpenEvent (h : BankHeader) : (s.withLines u v b k).stageOpenEvent h =
    ((s.stageOpenEvent h).1.withLines u v b k, (s.stageOpenEvent h).2) := by
  unfold State.stageOpenEvent
  (repeat' split) <;> simp_all
@[simp] theorem withLines_stageLineEvent (l : LineFields) : (s.withLines u v b k).stageLineEvent l =
    ((s.stageLineEvent l).1.withLines u v b k, (s.stageLineEvent l).2) := by
  unfold State.stageLineEvent
  (repeat' split) <;> simp_all
@[simp] theorem withLines_stageNoteEvent (n : NoteFields) : (s.withLines u v b k).stageNoteEvent n =
    ((s.stageNoteEvent n).1.withLines u v b k, (s.stageNoteEvent n).2) := by
  unfold State.stageNoteEvent
  (repeat' split) <;> simp_all
@[simp] theorem withLines_stageCloseEvent (i : Nat) : (s.withLines u v b k).stageCloseEvent i =
    ((s.stageCloseEvent i).1.withLines u v b k, (s.stageCloseEvent i).2) := by
  unfold State.stageCloseEvent
  dsimp only
  (repeat' split) <;> simp_all
@[simp] theorem withLines_stageFailEvent (i : Nat) : (s.withLines u v b k).stageFailEvent i =
    ((s.stageFailEvent i).1.withLines u v b k, (s.stageFailEvent i).2) := by
  unfold State.stageFailEvent
  (repeat' split) <;> simp_all
@[simp] theorem withLines_takeRun (m : Nat) : (s.withLines u v b k).takeRun m =
    ((s.takeRun m).1.withLines u v b k, (s.takeRun m).2) := by
  unfold State.takeRun
  dsimp only
  (repeat' split) <;> simp_all
@[simp] theorem withLines_takeEnd (m : Nat) : (s.withLines u v b k).takeEnd m =
    ((s.takeEnd m).1.withLines u v b k, (s.takeEnd m).2) := by
  unfold State.takeEnd
  dsimp only
  (repeat' split) <;> simp_all
@[simp] theorem withLines_takeMark (i m : Nat) (j : Byte) : (s.withLines u v b k).takeMark i m j =
    ((s.takeMark i m j).1.withLines u v b k, (s.takeMark i m j).2) := by
  unfold State.takeMark
  dsimp only
  (repeat' split) <;> simp_all
@[simp] theorem withLines_holdEvent : (s.withLines u v b k).holdEvent =
    ((s.holdEvent).1.withLines u v b k, (s.holdEvent).2) := by
  unfold State.holdEvent
  (repeat' split) <;> simp_all
@[simp] theorem withLines_goEvent : (s.withLines u v b k).goEvent =
    ((s.goEvent).1.withLines u v b k, (s.goEvent).2) := by
  unfold State.goEvent
  (repeat' split) <;> simp_all
@[simp] theorem withLines_keyEvent (d : Int) : (s.withLines u v b k).keyEvent d =
    ((s.keyEvent d).1.withLines u v b k, (s.keyEvent d).2) := by
  unfold State.keyEvent
  dsimp only
  (repeat' split) <;> simp_all
@[simp] theorem withLines_skipEvent (i : Nat) : (s.withLines u v b k).skipEvent i =
    ((s.skipEvent i).1.withLines u v b k, (s.skipEvent i).2) := by
  unfold State.skipEvent
  (repeat' split) <;> simp_all
@[simp] theorem withLines_stopSongEvent : (s.withLines u v b k).stopSongEvent =
    ((s.stopSongEvent).1.withLines u v b k, (s.stopSongEvent).2) := by
  unfold State.stopSongEvent
  (repeat' split) <;> simp_all
@[simp] theorem withLines_standbyEvent : (s.withLines u v b k).standbyEvent =
    ((s.standbyEvent).1.withLines u v b k, (s.standbyEvent).2) := by
  unfold State.standbyEvent
  (repeat' split) <;> first | rfl | simp_all

end Sys2Proof.Machine.State

namespace Sys2Proof.Machine

open State

variable {s : State}

/-! ### A running controller -/

theorem live_running (h : s.running = true) (f : State → State) : s.live f = f s := by simp [State.live, h]

theorem live_inReset (h : s.running = false) (f : State → State) : s.live f = s := by simp [State.live, h]

/-! ### Panel lines -/

theorem placeReply_reserve (u : PanelUnit) (r : PanelReply) : u.reserve.placeReply r = u.told r := by
  unfold PanelUnit.placeReply PanelUnit.told PanelUnit.reserve
  cases u.shift <;> rfl

theorem withLines_panelOwner (u v : PanelUnit) (b : BusState) (k : Option Nat) (kind : PanelKind) (l : PanelLine)
    (p : List Byte) : panelOwner kind l p (s.withLines u v b k) =
    ((panelOwner kind l p s).1.withLines u v b k, (panelOwner kind l p s).2) := by
  cases kind <;>
    simp [panelOwner, askSongRequest, dropEntryRequest, shiftEntryRequest, skipNowRequest, holdRequest, goRequest,
      keyRequest] <;> rfl

theorem panelOwner_panel (kind : PanelKind) (l m : PanelLine) (p : List Byte) :
    (panelOwner kind l p s).1.panel m = s.panel m := by
  cases kind <;> cases m <;>
    simp [panelOwner, askSongRequest, dropEntryRequest, shiftEntryRequest, skipNowRequest, holdRequest, goRequest,
      keyRequest, peekQueueRequest, peekNowRequest, peekPastRequest, State.panel]

theorem panelOwner_bus (kind : PanelKind) (l : PanelLine) (p : List Byte) :
    (panelOwner kind l p s).1.desk.bus = s.desk.bus ∧ (panelOwner kind l p s).1.desk.busTimer = s.desk.busTimer := by
  cases kind <;>
    simp [panelOwner, askSongRequest, dropEntryRequest, shiftEntryRequest, skipNowRequest, holdRequest, goRequest,
      keyRequest, peekQueueRequest, peekNowRequest, peekPastRequest]

/-- A frame of a known kind and length at an empty slot out of standby: the owner's effect, and its reply (R32, R35). -/
theorem takeFrame_takes {l : PanelLine} {k : PanelKind} {kind : Byte} {p : List Byte} (hs : s.Takes l)
    (hk : panelKindOf kind = some k) (hl : p.length = k.length) :
    takeFrame l kind p s = (panelOwner k l p s).1.replied l (panelOwner k l p s).2 := by
  have hown : panelOwner k l p (s.setPanel l (s.panel l).reserve) =
      ((panelOwner k l p s).1.setPanel l (s.panel l).reserve, (panelOwner k l p s).2) := by
    have hA := withLines_panelOwner (s := s) (s.panelA.reserve) s.panelB s.desk.bus s.desk.busTimer k .a p
    have hB := withLines_panelOwner (s := s) s.panelA (s.panelB.reserve) s.desk.bus s.desk.busTimer k .b p
    cases l
    · refine hA.trans (Prod.ext ?_ rfl)
      have := panelOwner_panel (s := s) k .a .b p
      have hd := panelOwner_bus (s := s) k .a p
      simp only [State.panel] at this
      simp only [State.withLines, ← this, ← hd.1, ← hd.2]
      rfl
    · refine hB.trans (Prod.ext ?_ rfl)
      have := panelOwner_panel (s := s) k .b .a p
      have hd := panelOwner_bus (s := s) k .b p
      simp only [State.panel] at this
      simp only [State.withLines, ← this, ← hd.1, ← hd.2]
      rfl
  unfold takeFrame dispatchFrame sendReply State.replied
  simp only [hs.2.1, hs.2.2, hk, hl, hown]
  have := panelOwner_panel (s := s) k l l p
  cases l <;> simp_all [State.setPanel, State.panel, placeReply_reserve]

/-- A frame whose request stage finds its slot not EMPTY is dropped (R32, step 1). -/
theorem takeFrame_full {l : PanelLine} {kind : Byte} {p : List Byte} (h : (s.panel l).slot ≠ .empty) :
    takeFrame l kind p s = (s.setPanel l (s.panel l).drop).raise .lineFault := by
  simp [takeFrame, h]

/-- A frame of no known kind is answered BAD_KIND (R32, step 3). -/
theorem takeFrame_badKind {l : PanelLine} {kind : Byte} {p : List Byte} (hs : s.Takes l) (hk : panelKindOf kind = none) :
    takeFrame l kind p s = s.replied l (noReply kind .badKind) := by
  unfold takeFrame dispatchFrame sendReply State.replied
  simp only [hs.2.1, hs.2.2, hk]
  cases l <;> simp [State.setPanel, State.panel, placeReply_reserve]

/-- A frame of a known kind with a length it does not have is answered BAD_FIELD (R32, step 4). -/
theorem takeFrame_badLength {l : PanelLine} {k : PanelKind} {kind : Byte} {p : List Byte} (hs : s.Takes l)
    (hk : panelKindOf kind = some k) (hl : p.length ≠ k.length) :
    takeFrame l kind p s = s.replied l (noReply kind .badField) := by
  unfold takeFrame dispatchFrame sendReply State.replied
  simp only [hs.2.1, hs.2.2, hk]
  cases l <;> simp [State.setPanel, State.panel, placeReply_reserve, hl]

/-- In standby, with waking on a panel frame disallowed, a frame is answered STANDBY (R32, step 2). -/
theorem takeFrame_standby {l : PanelLine} {kind : Byte} {p : List Byte} (h : (s.panel l).slot = .empty)
    (hs : s.desk.standby = true) (hw : s.desk.settings.wakeOnPanel = false) :
    takeFrame l kind p s = s.replied l (noReply kind .standby) := by
  unfold takeFrame sendReply State.replied
  simp only [h, hs, hw]
  cases l <;> simp [State.setPanel, State.panel, placeReply_reserve]

/-- Leaving standby is the same event whatever the panel line units hold (R201). -/
theorem setPanel_leaveStandby (s : State) (l : PanelLine) (u : PanelUnit) :
    (s.setPanel l u).leaveStandby = s.leaveStandby.setPanel l u := by
  have hbus : s.leaveStandby.desk.bus = s.desk.bus := by simp
  have htimer : s.leaveStandby.desk.busTimer = s.desk.busTimer := by simp
  have hA : s.leaveStandby.panelA = s.panelA := by simp
  have hB : s.leaveStandby.panelB = s.panelB := by simp
  cases l
  · refine (withLines_leaveStandby s u s.panelB s.desk.bus s.desk.busTimer).trans ?_
    rw [← hbus, ← htimer, ← hB]
    rfl
  · refine (withLines_leaveStandby s s.panelA u s.desk.bus s.desk.busTimer).trans ?_
    rw [← hbus, ← htimer, ← hA]
    rfl

/-- In standby, with waking on a panel frame allowed, a frame is handled as in the state that leaving standby gives (R33,
R201). -/
theorem takeFrame_wakes {l : PanelLine} {kind : Byte} {p : List Byte} (h : (s.panel l).slot = .empty)
    (hs : s.desk.standby = true) (hw : s.desk.settings.wakeOnPanel = true) :
    takeFrame l kind p s = takeFrame l kind p s.leaveStandby := by
  have hpanel : s.leaveStandby.panel l = s.panel l := by cases l <;> simp [State.panel]
  unfold takeFrame
  simp [h, hs, hw, hpanel, setPanel_leaveStandby]

/-! ### The media port -/

/-- A command that passes the port's checks: its owner's effect, and the answer (R177, R179). -/
theorem takeCommand_taken {kind : Byte} {p : List Byte} {check : Byte} {k : MediaKind} (hs : s.port.state = .command)
    (hk : portCheck kind p check = .ok k) :
    takeCommand kind p check s = (mediaOwner k p s).1.answered (mediaOwner k p s).2.code (mediaOwner k p s).2.payload := by
  simp [takeCommand, hs, hk, answerWith, State.answered, MediaPort.told]

/-- A command that fails one of the port's checks changes only the answer (R176). -/
theorem takeCommand_refused {kind : Byte} {p : List Byte} {check : Byte} {code : ResultCode}
    (hs : s.port.state = .command) (hk : portCheck kind p check = .error code) :
    takeCommand kind p check s = s.answered code [] := by
  simp [takeCommand, hs, hk, answerWith, State.answered, MediaPort.told, Answer.bare]

/-! ### The desk line -/

@[simp] theorem endTransaction_endTransaction (s : State) : s.endTransaction.endTransaction = s.endTransaction := rfl

theorem endTransaction_eq (s : State) : s.endTransaction = s.withLines s.panelA s.panelB .idle none := rfl

/-- A desk command's owner does not read the bus (section 10.6). -/
theorem deskOwner_endTransaction (k : DeskKind) (p : List Byte) (s : State) :
    deskOwner k p s.endTransaction = ((deskOwner k p s).1.endTransaction, (deskOwner k p s).2) := by
  cases k
  case configSet =>
    unfold deskOwner configSetCommand
    dsimp only
    split
    · rfl
    · rename_i item _
      cases item
      case baud =>
        have h : s.endTransaction.desk.settings.baud = s.desk.settings.baud := rfl
        by_cases hb : rateOf (fieldAt p 1 2) = s.desk.settings.baud <;> simp only [configure, setBaud, h, hb] <;> rfl
      all_goals rfl
  case readLineCounters =>
    unfold deskOwner readLineCountersCommand
    dsimp only
    split <;> rfl
  case newSession =>
    unfold deskOwner newSessionCommand
    have h : s.endTransaction.results = s.results := rfl
    dsimp only
    rw [h]
    split <;> rfl
  case wake =>
    unfold deskOwner wakeCommand
    have h : s.endTransaction.desk.standby = s.desk.standby := rfl
    have h2 : s.endTransaction.leaveStandby = s.leaveStandby.endTransaction := by simp [endTransaction_eq]
    dsimp only
    rw [h, h2]
    split <;> rfl
  all_goals
    first
    | rfl
    | simp [deskOwner, endTransaction_eq, creditsSetCommand, creditsAddCommand, creditsUnlimitedCommand,
        unlockCommand, insertPriorityCommand, promoteCommand, moveCommand, removeCommand, stopSongCommand,
        roomClearCommand, standbyCommand]

theorem deskOwner_resetUnit {k : DeskKind} (hk : k ≠ .deskReset) (p : List Byte) (s : State) :
    (deskOwner k p s).1.resetUnit = s.resetUnit := by
  cases k
  case deskReset => exact absurd rfl hk
  case configSet =>
    unfold deskOwner configSetCommand
    dsimp only
    split
    · rfl
    · rename_i item _
      cases item
      case baud =>
        unfold configure setBaud
        dsimp only
        split <;> rfl
      all_goals rfl
  case readLineCounters => unfold deskOwner readLineCountersCommand; dsimp only; split <;> rfl
  case newSession => unfold deskOwner newSessionCommand; dsimp only; split <;> simp
  case wake => unfold deskOwner wakeCommand; dsimp only; split <;> simp
  all_goals
    simp [deskOwner, statusCommand, readEventsCommand, ackEventsCommand, eventMaskCommand, creditsSetCommand,
      creditsAddCommand, creditsUnlimitedCommand, lockCommand, unlockCommand, configReadCommand, insertPriorityCommand,
      promoteCommand, moveCommand, removeCommand, stopSongCommand, readQueueCommand, readHistoryCommand,
      readBoardCommand, roomClearCommand, standbyCommand]

/-- A write that passes the desk line unit's checks, other than DESK RESET: its owner's effect, and the reply recorded
(R188, R189). -/
theorem takeWrite_taken {kind : Byte} {p : List Byte} {k : DeskKind} (hs : s.AtWrite) (hk : deskCheck kind p = .ok k)
    (hn : k ≠ .deskReset) :
    takeWrite kind p s =
      (deskOwner k p s).1.recorded (deskOwner k p s).2.code kind (deskOwner k p s).2.payload := by
  have hr : (deskOwner k p s).1.resetUnit = s.resetUnit := deskOwner_resetUnit hn p s
  have hrun : (deskOwner k p s).1.endTransaction.running = true := by
    have := hs.1
    unfold State.running at *
    simpa [State.endTransaction, hr] using this
  unfold takeWrite replyWith State.recorded
  simp only [hs.2, hk, deskOwner_endTransaction, hrun]
  rfl

/-- A write that fails one of the desk line unit's checks changes only the reply (R189). -/
theorem takeWrite_refused {kind : Byte} {p : List Byte} {code : ResultCode} (hs : s.AtWrite)
    (hk : deskCheck kind p = .error code) : takeWrite kind p s = s.recorded code kind [] := by
  have hrun : s.endTransaction.running = true := hs.1
  unfold takeWrite replyWith State.recorded
  simp only [hs.2, hk, hrun]
  rfl

end Sys2Proof.Machine
end

