-- ==== Sys2Proof/Laws/Ops.lean ====
section
/-! SUPPORT. One lemma for each shared operation that says what it does, for the proofs to cite: the completion of a taken
request on each line, the posting, re-examination, start, head change and queue event. -/

namespace Sys2Proof.Machine

open State

variable {s : State}

/-! ### A request taken on each line -/

/-- A panel request of the right length, outside standby: its owner's effect, and the reply (R32, step 5). -/
theorem exec_panel {l : PanelLine} {p : List Byte} {k : PanelKind} {c : Instr}
    (hc : exec c s = .next (s.live (takeFrame l k.code p))) (hs : s.Takes l) (hl : p.length = k.length) :
    exec c s = .next ((panelOwner k l p s).1.replied l (panelOwner k l p s).2) := by
  rw [hc, live_running hs.1, takeFrame_takes hs (by cases k <;> rfl) hl]

theorem deskCheck_fits {p : List Byte} {k : DeskKind} (hl : p.length = k.length) : deskCheck k.code p = .ok k := by
  unfold deskCheck
  have h1 : ¬(p.length + 1 > Config.deskWriteLimit) := by rw [hl]; cases k <;> simp [DeskKind.length]
  have h2 : deskKindOf k.code = some k := by cases k <;> rfl
  rw [if_neg h1, h2]
  simp [hl]

/-- A desk command of the right length, other than DESK RESET: its owner's effect, and the reply recorded (R188, R189). -/
theorem exec_desk {p : List Byte} {k : DeskKind} {c : Instr} (hc : exec c s = .next (s.live (takeWrite k.code p)))
    (hs : s.AtWrite) (hl : p.length = k.length) (hk : k ≠ .deskReset) :
    exec c s = .next
      ((deskOwner k p s).1.recorded (deskOwner k p s).2.code k.code (deskOwner k p s).2.payload) := by
  rw [hc, live_running hs.1, takeWrite_taken hs (deskCheck_fits hl) hk]

theorem byteSum_eq (bytes : List Byte) : byteSum bytes = BitVec.ofNat 8 (bytes.map BitVec.toNat).sum := by
  have key : ∀ (l : List Byte) (a : Byte), l.foldl (· + ·) a = a + BitVec.ofNat 8 (l.map BitVec.toNat).sum := by
    intro l
    induction l with
    | nil => intro a; simp
    | cons b l ih => intro a; simp [ih, BitVec.ofNat_add, BitVec.add_assoc]
  unfold byteSum
  rw [key]
  simp

theorem commandSumOk_iff (kind : Byte) (p : List Byte) (check : Byte) :
    commandSumOk kind p check = true ↔ SumsToZero kind p check := by
  unfold commandSumOk SumsToZero
  rw [beq_iff_eq, byteSum_eq, ← BitVec.toNat_inj]
  simp [field2, byteOf]
  omega

theorem portCheck_fits {p : List Byte} {check : Byte} {k : MediaKind} (hsum : SumsToZero k.code p check)
    (hl : k.lengthFits p = true) (hcap : p.length ≤ 1280) : portCheck k.code p check = .ok k := by
  unfold portCheck
  have h2 : mediaKindOf k.code = some k := by cases k <;> rfl
  rw [if_neg (by simp; omega), (commandSumOk_iff _ _ _).2 hsum, h2]
  simp [hl]

/-- A media port command whose sum is 0 and whose length fits its kind: its owner's effect, and the answer (R177, R179). -/
theorem exec_media {p : List Byte} {check : Byte} {k : MediaKind} {c : Instr}
    (hc : exec c s = .next (s.live (takeCommand k.code p check))) (hs : s.AtCheck) (hsum : SumsToZero k.code p check)
    (hl : k.lengthFits p = true) (hcap : p.length ≤ 1280) :
    exec c s = .next ((mediaOwner k p s).1.answered (mediaOwner k p s).2.code (mediaOwner k p s).2.payload) := by
  rw [hc, live_running hs.1, takeCommand_taken hs.2 (portCheck_fits hsum hl hcap)]

/-! ### The posting (R180) -/

theorem post_eq (s : State) : s.post = s.posting s.directiveNow := rfl

theorem posted_play (h : s.Posted) :
    s.port.directive.playOrder = s.deck.playOrder ∧
    s.port.directive.playId = (if s.deck.state = .idle then 0 else s.deck.stopId) ∧
    s.port.directive.playSong = (if s.deck.state = .idle then 0 else s.deck.song) ∧
    s.port.directive.keyShift = (if s.deck.state = .idle then 0 else s.deck.key) := by
  unfold State.Posted at h
  rw [h]
  exact ⟨rfl, rfl, rfl, rfl⟩

theorem posted_stage (h : s.Posted) :
    s.port.directive.stageOrder = (if s.store.state = .requested ∨ s.store.state = .loading then .load else .none) ∧
    s.port.directive.stageId = (if s.store.state = .requested ∨ s.store.state = .loading then s.store.owner.getD 0 else 0) ∧
    s.port.directive.stageSong = (if s.store.state = .requested ∨ s.store.state = .loading then s.ownerSong else 0) := by
  unfold State.Posted at h
  rw [h]
  exact ⟨rfl, rfl, rfl⟩

/-- A state whose staging and queue are those of a posted one posts the play fields of its own deck (R51, R69). -/
theorem directiveNow_deck {t : State} (h : s.Posted) (hs : t.store = s.store) (hr : t.room.entries = s.room.entries) :
    t.directiveNow = { s.port.directive with
      playOrder := t.deck.playOrder
      playId := if t.deck.state = .idle then 0 else t.deck.stopId
      playSong := if t.deck.state = .idle then 0 else t.deck.song
      keyShift := if t.deck.state = .idle then 0 else t.deck.key } := by
  obtain ⟨g1, g2, g3⟩ := posted_stage h
  have ho : t.ownerSong = s.ownerSong := by unfold State.ownerSong RoomQueue.find; rw [hs, hr]
  simp only [g1, g2, g3]
  unfold State.directiveNow
  rw [hs, ho]

/-- A state whose deck is that of a posted one posts the stage fields of its own staging (R51, R69). -/
theorem directiveNow_store {t : State} (h : s.Posted) (hd : t.deck = s.deck) :
    t.directiveNow = { s.port.directive with
      stageOrder := if t.store.state = .requested ∨ t.store.state = .loading then .load else .none
      stageId := if t.store.state = .requested ∨ t.store.state = .loading then t.store.owner.getD 0 else 0
      stageSong := if t.store.state = .requested ∨ t.store.state = .loading then t.ownerSong else 0 } := by
  obtain ⟨d1, d2, d3, d4⟩ := posted_play h
  simp only [d1, d2, d3, d4]
  unfold State.directiveNow
  rw [hd]

theorem post_of_directiveNow {d : DirectiveFields} (h : s.directiveNow = d) : s.post = s.posting d := by rw [post_eq, h]

theorem posting_self {d : DirectiveFields} (h : d = s.port.directive) : s.posting d = s := if_pos h

/-! ### The re-examination of the start conditions (R17, R20, R70, R71) -/

theorem startReady_of_ready (h : s.ReadyButForCredits) : s.startReady = true := by
  obtain ⟨a, b, c, d, e⟩ := h
  simp [State.startReady, a, b, c, d, e]

theorem startReady_of_not_ready (h : ¬s.ReadyButForCredits) : s.startReady = false := by
  unfold State.ReadyButForCredits at h
  unfold State.startReady
  by_contra hc
  simp only [Bool.not_eq_false, Bool.and_eq_true, beq_iff_eq, Bool.not_eq_true'] at hc
  obtain ⟨⟨⟨⟨a, b⟩, c⟩, d⟩, e⟩ := hc
  exact h ⟨a, b, c, by simpa using d, e⟩

theorem reexamine_not_ready (h : ¬s.ReadyButForCredits) : s.reexamine = s := by
  simp [State.reexamine, startReady_of_not_ready h]

theorem reexamineEvent_not_ready (h : ¬s.ReadyButForCredits) : s.reexamineEvent = s := by
  simp [State.reexamineEvent, startReady_of_not_ready h, reexamine_not_ready h]

theorem reexamine_short (h : s.ReadyButForCredits) (h1 : s.room.credits = 0) (h2 : s.room.unlimited = false) :
    s.reexamine = s.shorted := by
  simp [State.reexamine, startReady_of_ready h, RoomQueue.mayStart, h1, h2, State.noteShortage, State.shorted]

theorem reexamineEvent_short (h : s.ReadyButForCredits) (h1 : s.room.credits = 0) (h2 : s.room.unlimited = false) :
    s.reexamineEvent = s.shorted := by
  rw [← reexamine_short h h1 h2]
  simp [State.reexamineEvent, startReady_of_ready h, RoomQueue.mayStart, h1, h2]

theorem reexamine_start {e : Entry} {rest : List Entry} (h : s.ReadyButForCredits) (he : s.room.entries = e :: rest)
    (hc : 1 ≤ s.room.credits ∨ s.room.unlimited = true) : s.reexamine = s.startEntry e rest := by
  have hms : s.room.mayStart = true := by unfold RoomQueue.mayStart; rcases hc with h | h <;> simp [h]
  simp [State.reexamine, startReady_of_ready h, hms, State.start, he]

/-! ### The followers' inboxes (R76) -/

theorem searchCountdown_inbox (b : Bank) (t : Nat) : ∀ (n : Nat) (q : Sequencer),
    (q.searchCountdown b t n).inbox = q.inbox := by
  intro n
  induction n with
  | zero => intro q; rfl
  | succ n ih =>
    intro q
    unfold Sequencer.searchCountdown
    split
    · rfl
    · split
      · rw [ih]
      · split <;> rfl

theorem moveWindow_inbox (b : Bank) (t : Nat) : ∀ (n : Nat) (q : Sequencer), (q.moveWindow b t n).inbox = q.inbox := by
  intro n
  induction n with
  | zero => intro q; rfl
  | succ n ih =>
    intro q
    unfold Sequencer.moveWindow
    (repeat' split) <;> first | rfl | (rw [ih]; rfl)

theorem fillWindow_inbox (b : Bank) (t : Nat) : ∀ (n : Nat) (q : Sequencer), (q.fillWindow b t n).inbox = q.inbox := by
  intro n
  induction n with
  | zero => intro q; rfl
  | succ n ih =>
    intro q
    unfold Sequencer.fillWindow
    (repeat' split) <;> first | rfl | (rw [ih]; rfl)

theorem beginCountdown_inbox (b : Bank) (t : Nat) (q : Sequencer) : (q.beginCountdown b t).inbox = q.inbox := by
  unfold Sequencer.beginCountdown
  split
  · rfl
  · rw [searchCountdown_inbox]

theorem sequencer_take_inbox (b : Bank) (a : Advance) (q : Sequencer) : (q.take b a).inbox = q.inbox := by
  have hstep : (q.step b a.time).inbox = q.inbox := by
    unfold Sequencer.step
    rw [beginCountdown_inbox, moveWindow_inbox]
    unfold Sequencer.endCountdown Sequencer.endScroll
    (repeat' split) <;> rfl
  have hrebuild : (q.rebuild b a.time).inbox = q.inbox := by
    unfold Sequencer.rebuild
    rw [beginCountdown_inbox]
    exact fillWindow_inbox b _ _ _
  unfold Sequencer.take
  split <;> assumption

theorem grader_take_inbox (notes : List NoteRecord) (k : Int) (a : Advance) (g : Grader) :
    (g.take notes k a).inbox = g.inbox := by
  unfold Grader.take
  (repeat' split) <;> rfl

theorem lyric_takeAll_inbox (q : Sequencer) (b : Bank) : (q.takeAll b).inbox = [] := by
  have key : ∀ (l : List Advance) (r : Sequencer), (l.foldl (fun r a => r.take b a) r).inbox = r.inbox := by
    intro l
    induction l with
    | nil => intro r; rfl
    | cons a l ih => intro r; rw [List.foldl_cons, ih, sequencer_take_inbox]
  unfold Sequencer.takeAll
  rw [key]

theorem grader_takeAll_inbox (g : Grader) (notes : List NoteRecord) (k : Int) : (g.takeAll notes k).inbox = [] := by
  have key : ∀ (l : List Advance) (r : Grader), (l.foldl (fun r a => r.take notes k a) r).inbox = r.inbox := by
    intro l
    induction l with
    | nil => intro r; rfl
    | cons a l ih => intro r; rw [List.foldl_cons, ih, grader_take_inbox]
  unfold Grader.takeAll
  rw [key]

theorem lyric_takeAll_drained {q : Sequencer} (h : q.inbox = []) (b : Bank) : q.takeAll b = q := by
  cases q
  subst h
  rfl

theorem grader_takeAll_drained {g : Grader} (h : g.inbox = []) (notes : List NoteRecord) (k : Int) :
    g.takeAll notes k = g := by
  cases g
  subst h
  rfl

/-- A start and its posting, where the directive did not say to play that entry (R71). -/
theorem startEntry_post {e : Entry} {rest : List Entry} (hn : s.port.directive.playOrder ≠ .play ∨
    s.port.directive.playId ≠ e.id) : (s.startEntry e rest).post = s.begins e rest := by
  generalize hq : s.startEntry e rest = t
  have hroom : t.room = { s.room with entries := rest, shortage := false } := by rw [← hq]; simp [State.startEntry]
  have hdeck : t.deck = s.deck.startWith e := by rw [← hq]; simp [State.startEntry]
  have hstore : t.store = s.store.swap (rest.head?.map (·.id)) := by
    rw [← hq]; simp [State.startEntry, RoomQueue.headId]
  have hport : t.port = s.port := by rw [← hq]; simp
  have hfl : t.desk = { s.desk with flags := s.desk.flags.raise .queueChanged } := by
    rw [← hq]; simp [State.startEntry, State.raise]
  have hl : t.lyric =
      { window := [], cursor := 0, scroll := none, countdown := none, search := 0, inbox := []
        settings := s.desk.settings.lyric, forced := (s.lyric.takeAll s.store.playing).forced } := by
    rw [← hq]
    simp [State.startEntry, State.lyricNewSong, State.lyricCatchUp, Sequencer.newSong, lyric_takeAll_inbox,
      lyric_takeAll_drained]
  have hg : t.grader = { Grader.newSong s.store.staging.notes e.micMode s.grader with inbox := [] } := by
    rw [← hq]
    have h1 : (s.store.swap (rest.head?.map (·.id))).playing.notes = s.store.staging.notes := by
      unfold SongStore.swap SongStore.want SongStore.setStaging SongStore.playing SongStore.staging
      cases rest.head?.map (·.id) <;> cases hb : s.store.stagingIsBank0 <;> simp
    simp [State.startEntry, State.graderNewSong, State.graderCatchUp, Deck.startWith, RoomQueue.headId]
    rw [h1]
    unfold Grader.newSong
    simp [grader_takeAll_inbox]
  have hothers : t.pending = s.pending ∧ t.panelA = s.panelA ∧ t.panelB = s.panelB ∧ t.front = s.front ∧
      t.results = s.results ∧ t.resetUnit = s.resetUnit := by
    rw [← hq]; simp
  have hdir : t.directiveNow =
      { playOrder := .play, playId := e.id, playSong := e.song, keyShift := e.keyShift
        stageOrder := if rest = [] then .none else .load
        stageId := (rest.head?.map (·.id)).getD 0
        stageSong := (rest.head?.map (·.song)).getD 0 } := by
    unfold State.directiveNow State.ownerSong
    rw [hdeck, hstore, hroom]
    unfold SongStore.swap SongStore.want SongStore.setStaging Deck.startWith Deck.playOrder Deck.song Deck.key
      RoomQueue.find
    cases rest <;> simp
  have hne : t.directiveNow ≠ t.port.directive := by
    rw [hport, hdir]
    intro hh
    rw [← hh] at hn
    simp at hn
  rw [post_eq]
  unfold State.posting
  rw [if_neg hne, hport, hdir]
  obtain ⟨a1, a2, a3, a4, a5, a6⟩ := hothers
  apply State.ext_blocks
  all_goals simp [State.begins, a1, a2, a3, a4, a5, a6]
  · exact hroom
  · rw [hstore]
    unfold SongStore.swap SongStore.want SongStore.setStaging
    cases hb : s.store.stagingIsBank0 <;> cases rest <;> simp
  · exact hdeck
  · exact hl
  · rw [hg]
    unfold Grader.newSong MicGrade.begin
    cases e.micMode <;>
      simp [MicMode.partsA, MicMode.partsB, micBegins, MicGrade.unscored, LiveIndicator.off, nextNote]
  · exact hfl

/-- A re-examination that starts the head, as an event of its own (R70, R71). -/
theorem reexamineEvent_start {e : Entry} {rest : List Entry} (h : s.ReadyButForCredits)
    (he : s.room.entries = e :: rest) (hc : 1 ≤ s.room.credits ∨ s.room.unlimited = true)
    (hn : s.port.directive.playOrder ≠ .play ∨ s.port.directive.playId ≠ e.id) :
    s.reexamineEvent = s.begins e rest := by
  have hms : s.room.mayStart = true := by unfold RoomQueue.mayStart; rcases hc with h | h <;> simp [h]
  unfold State.reexamineEvent
  rw [startReady_of_ready h, hms]
  simp only [Bool.and_self, if_true, State.start, he]
  exact startEntry_post hn

/-- A re-examination as an event of its own, where the directive says what the deck does (R20, R70). -/
theorem reexamineEvent_spec (hn : s.deck.state = .idle → s.port.directive.playOrder = .none) :
    s.Reexamined s.reexamineEvent := by
  refine ⟨reexamineEvent_not_ready, reexamineEvent_short, fun h hc e rest he => ?_⟩
  exact reexamineEvent_start h he hc (.inl (by rw [hn h.1]; simp))

theorem shorted_deck (s : State) : s.shorted.deck = s.deck ∧ s.shorted.port = s.port ∧ s.shorted.store = s.store ∧
    s.shorted.room.entries = s.room.entries := by
  unfold State.shorted
  split <;> simp

/-- The directive of an IDLE deck whose stage fields are as posted (R51, R69). -/
theorem directiveNow_idle (hd : s.deck.state = .idle)
    (hs : s.port.directive.stageOrder = (if s.store.state = .requested ∨ s.store.state = .loading then .load else .none) ∧
      s.port.directive.stageId =
        (if s.store.state = .requested ∨ s.store.state = .loading then s.store.owner.getD 0 else 0) ∧
      s.port.directive.stageSong =
        (if s.store.state = .requested ∨ s.store.state = .loading then s.ownerSong else 0)) :
    s.directiveNow = { s.port.directive with playOrder := .none, playId := 0, playSong := 0, keyShift := 0 } := by
  obtain ⟨h1, h2, h3⟩ := hs
  unfold State.directiveNow
  simp only [h1, h2, h3, hd, Deck.playOrder, if_true]

/-- The return to IDLE, where the stage fields are as posted and the directive does not yet play an entry of the queue (R69,
R90, R91). -/
theorem idleEvent_spec
    (hs : s.port.directive.stageOrder = (if s.store.state = .requested ∨ s.store.state = .loading then .load else .none) ∧
      s.port.directive.stageId =
        (if s.store.state = .requested ∨ s.store.state = .loading then s.store.owner.getD 0 else 0) ∧
      s.port.directive.stageSong =
        (if s.store.state = .requested ∨ s.store.state = .loading then s.ownerSong else 0))
    (hn : s.port.directive.playOrder ≠ .play ∨ s.port.directive.playId ∉ s.room.entries.map (·.id)) :
    s.Idled s.idleEvent := by
  unfold State.idleEvent State.Idled
  have hidle : s.deck.toIdle = ⟨.idle, none, 0, false, 0, 0, 0, none, none, none, none⟩ := rfl
  rw [← hidle]
  refine ⟨fun h => ?_, fun h h1 h2 => ?_, fun h hc e rest he => ?_⟩
  · rw [reexamine_not_ready h]
    exact post_of_directiveNow (directiveNow_idle rfl hs)
  · rw [reexamine_short h h1 h2]
    refine post_of_directiveNow (directiveNow_idle ?_ ?_)
    · rw [(shorted_deck _).1]; rfl
    · have h3 : (s.setDeck s.deck.toIdle).shorted.ownerSong = s.ownerSong := by
        unfold State.ownerSong RoomQueue.find
        rw [(shorted_deck _).2.2.1, (shorted_deck _).2.2.2]
        rfl
      rw [(shorted_deck _).2.1, (shorted_deck _).2.2.1, h3]
      exact hs
  · rw [reexamine_start h he hc]
    refine startEntry_post (hn.imp_right fun h4 h5 => h4 ?_)
    rw [he]
    simp only [List.map_cons, List.mem_cons]
    exact .inl h5

/-! ### Head changes and queue events (R16, R52) -/

theorem nameHead_eq {st : SongStore} (h : st.BankAsState) (ho : st.state = .empty → st.owner = none) (hd : Option Nat) :
    st.nameHead hd =
      { st.emptied with state := if hd.isSome then .requested else .empty, owner := hd } := by
  unfold SongStore.nameHead SongStore.discard SongStore.want SongStore.emptied SongStore.setStaging
  unfold SongStore.BankAsState SongStore.staging at h
  cases hst : st.state <;> cases hb : st.stagingIsBank0 <;> cases hd <;> simp_all

theorem find_head (q : RoomQueue) {e : Entry} (h : q.entries.head? = some e) : q.find e.id = some e := by
  unfold RoomQueue.find
  cases hq : q.entries <;> simp [hq] at h ⊢
  simp [h]

theorem headEvent_changed (hst : s.store.BankAsState) (hso : s.store.state = .empty → s.store.owner = none)
    (hd : s.port.directive.playOrder = s.deck.playOrder ∧
      s.port.directive.playId = (if s.deck.state = .idle then 0 else s.deck.stopId) ∧
      s.port.directive.playSong = (if s.deck.state = .idle then 0 else s.deck.song) ∧
      s.port.directive.keyShift = (if s.deck.state = .idle then 0 else s.deck.key))
    {before : Option Nat} (hb : s.room.headId ≠ before) : s.headEvent before = s.asks s.room.entries.head? := by
  unfold State.headEvent
  rw [if_neg hb, nameHead_eq hst hso]
  have h1 : ¬(s.setStore { s.store.emptied with
      state := if s.room.headId.isSome then .requested else .empty, owner := s.room.headId }).ReadyButForCredits := by
    intro hr
    have := hr.2.2.2.2
    simp at this
    split at this <;> simp at this
  rw [reexamine_not_ready h1, post_eq]
  unfold State.asks
  have e1 : s.room.headId.isSome = s.room.entries.head?.isSome := by unfold RoomQueue.headId; simp
  have e2 : s.room.headId = s.room.entries.head?.map (·.id) := rfl
  rw [e1, e2]
  congr 1
  unfold State.directiveNow State.ownerSong
  obtain ⟨d1, d2, d3, d4⟩ := hd
  simp only [setStore_deck, setStore_store, setStore_room]
  cases hh : s.room.entries.head? with
  | none => simp [d1, d2, d3, d4]; exact ⟨rfl, rfl, rfl⟩
  | some e => simp [d1, d2, d3, d4, find_head s.room hh]; exact ⟨rfl, rfl, rfl⟩

/-- A queue event that leaves the head where it was. -/
theorem queueEvent_same {q : RoomQueue} (h : q.headId = s.room.headId) :
    s.queueEvent q = (s.setRoom q).raise .queueChanged := by
  unfold State.queueEvent State.headEvent
  simp [h]

/-- A queue event that changes the head asks for the new head's song (R16, R52). -/
theorem queueEvent_changed {q : RoomQueue} (hst : s.StagingRule) (hp : s.Posted) (h : q.headId ≠ s.room.headId) :
    s.queueEvent q = ((s.setRoom q).raise .queueChanged).asks q.entries.head? := by
  unfold State.queueEvent
  have hso : s.store.state = .empty → s.store.owner = none := by
    intro he
    have := hst.empty.1 he
    rw [hst.owner]
    simp [RoomQueue.headId, this]
  rw [headEvent_changed (by simpa using hst.bank) (by simpa using hso) (by simpa using posted_play hp) (by simpa using h)]
  simp

/-! ### Entries by id -/

theorem eraseP_eq_filter {l : List Entry} {i : Nat} (h : (l.map (·.id)).Nodup) :
    l.eraseP (·.id == i) = l.filter (·.id != i) := by
  induction l with
  | nil => rfl
  | cons a l ih =>
    simp only [List.map_cons, List.nodup_cons] at h
    by_cases ha : a.id = i
    · have : l.filter (·.id != i) = l := by
        rw [List.filter_eq_self]
        intro b hb
        simp only [bne_iff_ne]
        intro hh
        exact h.1 (by rw [ha, ← hh]; exact List.mem_map_of_mem hb)
      simp [ha, this]
    · simp [ha, ih h.2]

theorem find_of_mem {q : RoomQueue} {e : Entry} (h : (q.entries.map (·.id)).Nodup) (he : e ∈ q.entries) :
    q.find e.id = some e := by
  unfold RoomQueue.find
  generalize q.entries = l at h he
  induction l with
  | nil => simp at he
  | cons a l ih =>
    simp only [List.map_cons, List.nodup_cons] at h
    rcases List.mem_cons.1 he with rfl | he
    · simp
    · have : a.id ≠ e.id := fun hh => h.1 (hh ▸ List.mem_map_of_mem he)
      simp [this]
      exact ih h.2 he

theorem find_of_not_mem {q : RoomQueue} {i : Nat} (h : i ∉ q.entries.map (·.id)) : q.find i = none := by
  unfold RoomQueue.find
  simp at h ⊢
  exact h

end Sys2Proof.Machine
end

