-- ==== Sys2Proof/Tests/Slice0.lean ====
section
/-! SUPPORT. Tests: ill-formed terms that `wellFormed` refuses; the worked sequences of the spec, one event each; and for each
statement that has hypotheses a concrete state and operands that meet them, clause by clause. -/

namespace Sys2Proof.Tests

open Sys2Proof Sys2Proof.Machine Sys2Proof.Machine.State

/-! ## Helpers -/

/-- The state after one command. -/
def after (c : Instr) (s : State) : State :=
  match exec c s with
  | .next t => t
  | .fault _ => s
  | .refused _ => s

/-- A controller in which every line takes what it carries: running, the desk WRITING and the port in COMMAND, with the
directive its deck and its staging controller would have posted. -/
def ready (room : RoomQueue) (store : SongStore) (deck : Deck) (grader : Grader) (results : Results) : State :=
  let s : State :=
    { State.reset with
      room := room, store := store, deck := deck, grader := grader, results := results
      port := { MediaPort.atReset false with state := .command }
      desk := { DeskUnit.atReset 0x38 with bus := .writing, busTimer := some 20, flags := EventFlags.clear } }
  s.setPort { s.port with directive := s.directiveNow }

/-- The state after one step. -/
def stepped (s : State) : State :=
  match step s with
  | .next t => t
  | .fault _ => s
  | .refused _ => s

variable (room : RoomQueue) (store : SongStore) (deck : Deck) (grader : Grader) (results : Results)

theorem ready_takes (l : PanelLine) : (ready room store deck grader results).Takes l := by
  cases l <;> exact ⟨rfl, rfl, rfl⟩

theorem ready_at_check : (ready room store deck grader results).AtCheck := ⟨rfl, rfl⟩

theorem ready_at_write : (ready room store deck grader results).AtWrite := ⟨rfl, rfl⟩

theorem ready_posted : (ready room store deck grader results).Posted := rfl

/-- The check byte that makes a command's bytes sum to 0. -/
def checkOf (kind : Byte) (p : List Byte) : Byte :=
  byteOf (256 - (kind.toNat + p.length / 256 + p.length % 256 + (p.map BitVec.toNat).sum) % 256)

/-- An entry of panel A, of song 100 + id. -/
def entry (id : Nat) : Entry :=
  { id := id, song := 100 + id, singer := 3, origin := .panelA, priority := false, micMode := .soloA, keyShift := 0,
    arrival := id }

/-- An unlocked room with 2 credits and a quota of 2. -/
def roomOf (es : List Entry) : RoomQueue :=
  { entries := es, lastId := es.length, arrivals := es.length, credits := 2, unlimited := false, locked := false, quota := 2,
    shortage := false }

/-- Staging that has asked for the song of the first entry. -/
def asked (es : List Entry) : SongStore :=
  { SongStore.atReset with state := if es = [] then .empty else .requested, owner := es.head?.map (·.id) }

/-- An idle controller with these entries queued. -/
def queued (es : List Entry) : State := ready (roomOf es) (asked es) Deck.atReset Grader.atReset Results.atReset

theorem queued_staging (es : List Entry) : (queued es).StagingRule := by
  cases es
  · exact ⟨rfl, by decide, rfl⟩
  · exact ⟨rfl, ⟨fun h => StagingState.noConfusion h, fun h => absurd h (List.cons_ne_nil _ _)⟩, rfl⟩

/-! ## Well-formedness: each check refuses a term -/

theorem test_ill_formed_panel_payload : (Instr.askSong .a (List.replicate 17 0#8)).wellFormed = false := by decide
theorem test_ill_formed_panel_kind : (Instr.panelUnknownKind .b 0x19#8 []).wellFormed = false := by decide
theorem test_ill_formed_panel_unknown_payload :
    (Instr.panelUnknownKind .b 0x1A#8 (List.replicate 17 0#8)).wellFormed = false := by decide
theorem test_ill_formed_media_payload : (Instr.line (List.replicate 65536 0#8) 0#8).wellFormed = false := by
  simp only [Instr.wellFormed, mediaPayloadFits, List.length_replicate]; decide
theorem test_ill_formed_run_mark : (Instr.timeMarkRun [1#8, 0#8, 0#8, 0#8, 2#8] 0#8).wellFormed = false := by decide
theorem test_ill_formed_end_mark : (Instr.timeMarkEnd [1#8, 0#8, 0#8, 0#8, 1#8] 0#8).wellFormed = false := by decide
theorem test_ill_formed_media_kind : (Instr.mediaUnknownKind 0x0A#8 [] 0#8).wellFormed = false := by decide
theorem test_ill_formed_desk_kind : (Instr.deskUnknownKind 0x58#8 []).wellFormed = false := by decide
theorem test_well_formed_unknown_kinds :
    (Instr.panelUnknownKind .a 0x1A#8 []).wellFormed = true ∧ (Instr.mediaUnknownKind 0#8 [] 0#8).wellFormed = true ∧
    (Instr.deskUnknownKind 0x59#8 []).wellFormed = true := by decide

/-! ## Chapter 1: the worked sequence of section 1.8 -/

/-- Section 1.8, step 1. -/
theorem test_ask_song_first :
    let s := after (.askSong .a [1#8, 0x97#8, 0x1C#8, 3#8, 1#8, 0#8]) (queued [])
    s.room.entries.map (fun e => (e.id, e.song, e.singer, e.arrival)) = [(1, 104220, 3, 1)] ∧
    s.panelA.shift = some ⟨⟨0x80#8, [0x10#8, 1#8, 1#8]⟩, .r19200⟩ ∧ s.store.owner = some 1 := by decide

/-- Section 1.8, step 2: the singer tag and the key shift are clamped. -/
theorem test_ask_song_clamps :
    let s := after (.askSong .b [1#8, 0x57#8, 0xCF#8, 20#8, 3#8, 9#8]) (queued [entry 1])
    s.room.entries[1]?.map (fun e => (e.id, e.song, e.singer, e.keyShift)) = some (2, 88015, 15, 6) := by decide

/-- Section 1.8, step 4. -/
theorem test_ask_song_quota :
    let s := after (.askSong .a [0#8, 0x59#8, 0xD9#8, 0#8, 1#8, 0#8]) (queued [entry 1, entry 2])
    s.panelA.shift = some ⟨⟨0x81#8, [0x10#8, 2#8]⟩, .r19200⟩ ∧ s.room = (queued [entry 1, entry 2]).room := by decide

/-- Section 1.8, step 5: song 500001 of the desk takes the head. -/
theorem test_insert_priority_takes_head :
    let s := after (.insertPriority [0x07#8, 0xA1#8, 0x21#8, 0#8, 2#8, 0#8]) (queued [entry 1, entry 2, entry 3])
    s.room.entries.map (·.id) = [4, 1, 2, 3] ∧ s.desk.reply = some ⟨.ok, 0x4B#8, [4#8, 1#8]⟩ ∧
    s.port.directive.stageSong = 500001 ∧ s.port.changeCount = 1 := by decide

/-- Section 1.8, step 6: a target of 1 is clamped into the normal block. -/
theorem test_shift_entry_clamped :
    let s := after (.shiftEntry .a [2#8, 1#8]) (queued [{ entry 4 with priority := true }, entry 1, entry 2, entry 3])
    s.room.entries.map (·.id) = [4, 2, 1, 3] ∧ s.panelA.shift = some ⟨⟨0x80#8, [0x12#8, 2#8]⟩, .r19200⟩ := by decide

/-- Section 1.8, step 7. -/
theorem test_drop_entry_not_yours :
    (after (.dropEntry .b [2#8]) (queued [entry 1, entry 2])).panelB.shift =
      some ⟨⟨0x81#8, [0x11#8, 5#8]⟩, .r19200⟩ := by decide

/-- Section 1.8, step 8. -/
theorem test_promote_behind_priority :
    let s := after (.promote [3#8]) (queued [{ entry 4 with priority := true }, entry 2, entry 1, entry 3])
    s.room.entries.map (fun e => (e.id, e.priority)) = [(4, true), (3, true), (2, false), (1, false)] ∧
    s.desk.reply = some ⟨.ok, 0x4C#8, [2#8]⟩ := by decide

/-- Section 1.8, step 9: the head leaves, and the next is named to staging. -/
theorem test_remove_head :
    let s := after (.remove [4#8]) (queued [{ entry 4 with priority := true }, entry 3, entry 2])
    s.room.entries.map (·.id) = [3, 2] ∧ s.store.owner = some 3 ∧ s.results.history = [] := by decide

/-- Section 1.8, the wrap-around of the allocator. -/
theorem test_issue_id_wraps : issueId [250, 1, 2] 249 = 3 := by decide

/-- R15, R42: a page of a queue of three from position 2. -/
theorem test_peek_queue :
    (after (.peekQueue .a [2#8]) (queued [entry 1, entry 2, entry 3])).panelA.shift.map (·.reply.payload) =
      some [3#8, 2#8,
        2#8, 2#8, 0#8, 0#8, 102#8, 3#8, 1#8, 0#8, 1#8, 0#8, 0#8, 2#8,
        3#8, 3#8, 0#8, 0#8, 103#8, 3#8, 1#8, 0#8, 1#8, 0#8, 0#8, 3#8] := by decide

/-- R203: beyond the end of the queue the desk's page holds no entry. -/
theorem test_read_queue_beyond : (after (.readQueue [9#8]) (queued [entry 1])).desk.reply = some ⟨.ok, 0x50#8, [1#8, 0#8]⟩ := by
  decide

theorem test_move_to_end :
    let s := after (.move [1#8, 255#8]) (queued [entry 1, entry 2, entry 3])
    s.room.entries.map (·.id) = [2, 3, 1] ∧ s.desk.reply = some ⟨.ok, 0x4D#8, [3#8]⟩ := by decide

/-- R18: credits saturate at 999 and an amount of 0 changes nothing. -/
theorem test_credits_saturate :
    (after (.creditsAdd [0x03#8, 0xE6#8]) (queued [])).room.credits = 999 ∧
    (after (.creditsSet [0x03#8, 0xE8#8]) (queued [])).desk.reply = some ⟨.ok, 0x44#8, [0#8, 0x03#8, 0xE7#8]⟩ := by
  decide +kernel

theorem test_unlimited_lock_unlock :
    (after (.creditsUnlimited [5#8]) (queued [])).room.unlimited = true ∧ (after (.lock []) (queued [])).room.locked = true ∧
    (after (.unlock []) State.reset).room.locked = true ∧ (after (.unlock []) (queued [])).room.locked = false := by decide

/-! ### What meets the statements of chapter 1 -/

theorem witness_IssuedIdIsFirstFreeAfterLast :
    (249 ≤ 250 ∧ ∃ i, 1 ≤ i ∧ i ≤ 250 ∧ i ∉ [250, 1, 2]) ∧ (250 ≤ 250 ∧ ∃ i, 1 ≤ i ∧ i ≤ 250 ∧ i ∉ ([] : List Nat)) ∧
    (State.reset.room.lastId ≤ 250 ∧ State.reset.room.entries.length ≤ 32 ∧ State.reset.results.history.length ≤ 16) :=
  ⟨⟨by decide, 3, by decide⟩, ⟨by decide, 250, by decide⟩, by decide⟩

/-- Song 999999 into an empty queue and song 1 behind an entry. -/
theorem witness_AskSongPlacesEntryLast :
    ((queued []).Takes .a ∧ (queued []).StagingRule ∧ (queued []).Posted ∧
      ([] : List Entry).countP (·.origin == lineOrigin .a) < (queued []).room.quota ∧
      fieldAt [0x0F#8, 0x42#8, 0x3F#8, 16#8, 1#8, 0xF9#8] 0 3 = 999999 ∧ micModeOf 1#8 = some .soloA) ∧
    ((queued [entry 1]).Takes .b ∧ (queued [entry 1]).StagingRule ∧ (queued [entry 1]).Posted ∧
      (queued [entry 1]).room.locked = false ∧ (queued [entry 1]).room.entries.length < 32 ∧
      [entry 1].countP (·.origin == lineOrigin .b) < (queued [entry 1]).room.quota ∧
      fieldAt [0#8, 0#8, 1#8, 0#8, 3#8, 6#8] 0 3 = 1 ∧ micModeOf 3#8 = some .duet) :=
  ⟨⟨ready_takes .., queued_staging _, ready_posted .., by decide⟩,
    ready_takes .., queued_staging _, ready_posted .., by decide⟩

/-- A full queue of 32 entries of the desk. -/
def full : List Entry := (List.range 32).map fun i => { entry (i + 1) with origin := .desk }

theorem witness_SubmissionRefusedByFirstFailedCheck :
    (ready { roomOf full with locked := true } (asked full) Deck.atReset Grader.atReset Results.atReset).Takes .a ∧
    ((queued full).Takes .a ∧ (queued full).AtWrite ∧ (queued full).room.locked = false ∧
      32 ≤ (queued full).room.entries.length) ∧
    ((queued [entry 1, entry 2]).Takes .a ∧ (queued [entry 1, entry 2]).room.quota ≤
      (queued [entry 1, entry 2]).room.entries.countP (·.origin == lineOrigin .a)) ∧
    ((queued [entry 1]).Takes .a ∧ (queued [entry 1]).AtWrite ∧
      (queued [entry 1]).room.entries.countP (·.origin == lineOrigin .a) < (queued [entry 1]).room.quota ∧
      fieldAt [0#8, 0#8, 0#8, 0#8, 1#8, 0#8] 0 3 = 0 ∧ 999999 < fieldAt [0x0F#8, 0x42#8, 0x40#8, 0#8, 1#8, 0#8] 0 3 ∧
      micModeOf 0#8 = none ∧ micModeOf 4#8 = none) :=
  ⟨ready_takes .., ⟨ready_takes .., ready_at_write .., by decide⟩, ⟨ready_takes .., by decide⟩, ready_takes ..,
    ready_at_write .., by decide⟩

theorem witness_InsertPriorityPlacesEntryAfterPriorityBlock :
    ((queued []).AtWrite ∧ (queued []).StagingRule ∧ (queued []).Posted ∧ issueId (queued []).idsInUse 0 = 1) ∧
    ((queued [{ entry 1 with priority := true }]).AtWrite ∧ (queued [{ entry 1 with priority := true }]).StagingRule ∧
      (queued [{ entry 1 with priority := true }]).Posted ∧
      issueId (queued [{ entry 1 with priority := true }]).idsInUse 1 = 2) :=
  ⟨⟨ready_at_write .., queued_staging _, ready_posted .., by decide⟩,
    ready_at_write .., queued_staging _, ready_posted .., by decide⟩

/-- The head, an entry behind it, an entry of another origin, and ids 0 and 251 that no entry carries. -/
theorem witness_DropEntryAndRemoveTakeEntryOut :
    (queued [entry 1, entry 2]).Takes .a ∧ (queued [entry 1, entry 2]).Takes .b ∧ (queued [entry 1, entry 2]).AtWrite ∧
    (queued [entry 1, entry 2]).StagingRule ∧ (queued [entry 1, entry 2]).Posted ∧
    ((queued [entry 1, entry 2]).room.entries.map (·.id)).Nodup ∧
    (∀ i ∈ [0, 251], i ∉ (queued [entry 1, entry 2]).room.entries.map (·.id)) ∧
    (entry 1).origin = lineOrigin .a ∧ (entry 1).origin ≠ lineOrigin .b ∧
    (∀ e ∈ [entry 1, entry 2], e ∈ (queued [entry 1, entry 2]).room.entries) :=
  ⟨ready_takes .., ready_takes .., ready_at_write .., queued_staging _, ready_posted .., by decide⟩

theorem witness_MoveRefusedByFirstFailedCheck :
    let es := [{ entry 1 with priority := true }, entry 2]
    (ready { roomOf es with locked := true } (asked es) Deck.atReset Grader.atReset Results.atReset).Takes .a ∧
    (queued es).Takes .a ∧ (queued es).Takes .b ∧ (queued es).AtWrite ∧ ((queued es).room.entries.map (·.id)).Nodup ∧
    (queued es).room.locked = false ∧ 3 ∉ (queued es).room.entries.map (·.id) ∧ (entry 2).origin ≠ lineOrigin .b ∧
    (∃ e ∈ (queued es).room.entries, e.id = 1 ∧ e.origin = lineOrigin .a ∧ e.priority = true) :=
  ⟨ready_takes .., ready_takes .., ready_takes .., ready_at_write .., by decide⟩

/-- A move of the entry at position 2 of three to 0 (a head change), to its own position 2 and to 255. -/
theorem witness_MovePutsEntryAtClampedTarget :
    let s := queued [entry 1, entry 2, entry 3]
    (s.room.entries.map (·.id)).Nodup ∧ s.StagingRule ∧ s.Posted ∧ s.room.entries[1]? = some (entry 2) ∧
    (∀ p ∈ [[2#8, 0#8], [2#8, 2#8], [2#8, 255#8]], p.length = 2 ∧ (entry 2).id = (byteAt p 0).toNat) ∧
    (entry 2).priority = false ∧ s.Takes .a ∧ s.room.locked = false ∧ (entry 2).origin = lineOrigin .a ∧ s.AtWrite :=
  ⟨by decide, queued_staging _, ready_posted .., by decide, by decide, by decide, ready_takes .., by decide, by decide,
    ready_at_write ..⟩

theorem witness_PromoteMakesLastPriorityEntry :
    let es := [{ entry 1 with priority := true }, entry 2]
    (queued es).AtWrite ∧ ((queued es).room.entries.map (·.id)).Nodup ∧ 0 ∉ (queued es).room.entries.map (·.id) ∧
    (∃ e, (queued es).room.entries[0]? = some e ∧ e.id = 1 ∧ e.priority = true) ∧
    (entry 2 ∈ (queued es).room.entries ∧ (entry 2).priority = false) ∧ (queued es).StagingRule ∧ (queued es).Posted :=
  ⟨ready_at_write .., by decide, by decide, ⟨_, rfl, by decide⟩, by decide, queued_staging _, ready_posted ..⟩

/-- Amounts that leave the account and amounts that change it; no start is possible in the first, one is in the second. -/
theorem witness_AccountAndLockCommands :
    ((queued []).AtWrite ∧ (queued []).Posted ∧ fieldAt [0#8, 2#8] 0 2 = (queued []).room.credits ∧
      fieldAt [0x03#8, 0xE7#8] 0 2 = 999) ∧
    (∃ s : State, s.AtWrite ∧ s.Posted ∧ s.room.credits = 0 ∧ s.ReadyButForCredits) :=
  ⟨⟨ready_at_write .., ready_posted .., by decide⟩,
    ready { roomOf [entry 1] with credits := 0 } { asked [entry 1] with state := .ready } Deck.atReset Grader.atReset
      Results.atReset,
    ready_at_write .., ready_posted .., rfl, rfl, rfl, rfl, by decide, rfl⟩

theorem witness_QueuePages :
    (queued [entry 1]).Takes .a ∧ (queued [entry 1]).AtWrite ∧ [0#8].length = 1 ∧ [255#8].length = 1 :=
  ⟨ready_takes .., ready_at_write .., by decide⟩

/-! ## Chapter 2: the worked sequences of section 2.8 -/

/-- An idle controller whose line B is this. -/
def lineB (u : PanelUnit) : State := { queued [] with panelB := u }

/-- A receiver that watches, with a frame assembled so far. -/
def watching (a : Assembler) : PanelUnit :=
  { PanelUnit.atReset true with receiver := .watching, assembler := a, gapCounting := a.inProgress }

/-- Receiver errors, step 3: a break cuts the frame. -/
theorem test_break_cuts :
    let s := after (.panelBreak .b) (lineB (watching (.payload 0x10#8 6 [0#8, 1#8] 0x17#8)))
    s.panelB.assembler = .awaitLead ∧ s.panelB.counters = ⟨0, 0, 0, 0, 0, 0, 1, 0⟩ ∧ s.desk.flags.lineFault = true := by decide

/-- Receiver errors, step 2: the lead byte 195, its bits from the stop bit down: 1, parity 0, 11000011, start 0. -/
theorem test_lead_character :
    (after (.panelCharacter .b 0b10110000110#11 0b10110000110#11 0b10110000110#11) (lineB (watching .awaitLead))).panelB =
      watching .awaitKind := by decide

/-- Receiver errors, step 4: the check 232 leaves the sum of 0x11, 1, 7 at 1. -/
theorem test_check_error :
    let s := after (.panelCharacter .b 0b10111010000#11 0b10111010000#11 0b10111010000#11)
      (lineB (watching (.awaitCheck 0x11#8 [7#8] 25#8)))
    s.panelB.assembler = .outside ∧ s.panelB.counters = ⟨0, 0, 0, 0, 1, 0, 0, 0⟩ ∧ s.panelB.shift = none := by decide

/-- Receiver errors, step 6: 194 is no lead byte. -/
theorem test_lead_error :
    (after (.panelCharacter .b 0b11110000100#11 0b11110000100#11 0b11110000100#11) (lineB (watching .awaitLead))).panelB.counters
      = ⟨0, 0, 1, 0, 0, 0, 0, 0⟩ := by decide

/-- Receiver errors, step 7: a length of 20. -/
theorem test_length_error :
    (after (.panelCharacter .b 0b10000101000#11 0b10000101000#11 0b10000101000#11)
      (lineB (watching (.awaitLength 0x18#8 0x18#8)))).panelB.counters = ⟨0, 0, 0, 1, 0, 0, 0, 0⟩ := by decide

/-- Receiver errors, step 5: outside a frame a character of bad parity is ignored. -/
theorem test_outside_ignores_parity :
    (after (.panelCharacter .b 0b11110000110#11 0b11110000110#11 0b11110000110#11) (lineB (watching .outside))).panelB =
      watching .outside := by decide

/-- Receiver errors, step 8. -/
theorem test_gap :
    let s := after (.gap .b) (lineB (watching (.awaitCheck 0x18#8 [] 24#8)))
    s.panelB.assembler = .outside ∧ s.panelB.counters = ⟨0, 0, 0, 0, 0, 1, 0, 0⟩ := by decide

/-- Receiver errors, step 9: PEEK NOW with the check 232 is complete, and its reply is sent. -/
theorem test_frame_completes :
    let s := after (.panelCharacter .b 0b10111010000#11 0b10111010000#11 0b10111010000#11)
      (lineB (watching (.awaitCheck 0x18#8 [] 24#8)))
    s.panelB.assembler = .outside ∧ s.panelB.shift.map (·.reply.kind) = some 0x83#8 := by decide

/-- R25: one sample in three is outvoted. -/
theorem test_majority : majority 0b10110000110#11 0b10110000110#11 0b01001111001#11 = 0b10110000110#11 := by decide

/-- A reply being sent, and a slot that holds another. -/
def busy (slot : ReplySlot) : PanelUnit :=
  { watching .outside with slot := slot, shift := some ⟨⟨0x82#8, [0#8, 0#8]⟩, .r19200⟩ }

/-- A busy line, at 6.0 ms: a HOLD is dropped. -/
theorem test_request_dropped :
    let s := after (.hold .b []) (lineB (busy (.full ⟨0x83#8, []⟩)))
    s.panelB.counters.drop = 1 ∧ s.desk.flags.lineFault = true ∧ s.panelB.slot = .full ⟨0x83#8, []⟩ := by decide

/-- A busy line, at 3.0 ms and at 31.668 ms. -/
theorem test_reply_waits_then_is_sent :
    (after (.hold .b []) (lineB (busy .empty))).panelB.slot = .full ⟨0x81#8, [0x14#8, 6#8]⟩ ∧
    (after (.shiftCompletion .b) (lineB (busy (.full ⟨0x83#8, []⟩)))).panelB.shift = some ⟨⟨0x83#8, []⟩, .r19200⟩ := by decide

/-- R32: an unknown kind is answered BAD_KIND, and a wrong length BAD_FIELD. -/
theorem test_kind_before_length :
    (after (.panelUnknownKind .b 0x1A#8 [1#8]) (queued [])).panelB.shift.map (·.reply) = some ⟨0x81#8, [0x1A#8, 11#8]⟩ ∧
    (after (.peekNow .b [1#8]) (queued [])).panelB.shift.map (·.reply) = some ⟨0x81#8, [0x18#8, 10#8]⟩ := by decide

/-- R33: in standby without wake on panel a request is answered STANDBY. -/
theorem test_standby_refuses :
    let s := queued []
    let asleep := { s with desk := { s.desk with standby := true, settings := { Settings.default with wakeOnPanel := false } } }
    (after (.peekNow .a []) asleep).panelA.shift.map (·.reply) = some ⟨0x81#8, [0x18#8, 13#8]⟩ := by decide

/-- R26: a line that returns high is watched again. -/
theorem test_line_returns_high :
    (after (.lineReturnsHigh .b) (lineB { watching .awaitLead with lineHigh := false, receiver := .waitHigh })).panelB =
      watching .awaitLead := by decide

/-! ### What meets the statements of chapter 2 -/

/-- A frame in progress and none, at a receiver that watches; a waiting receiver on a high line and on a low one. -/
theorem witness_PanelBreakAndGap :
    (∀ a ∈ [Assembler.awaitKind, .outside, .awaitLead],
      (lineB (watching a)).running = true ∧ ((lineB (watching a)).panel .b).receiver = .watching ∧
      (((lineB (watching a)).panel .b).gapCounting = true ↔ a ≠ .outside ∧ a ≠ .awaitLead)) ∧
    ((lineB (PanelUnit.atReset true)).panel .b).lineHigh = true ∧
    (((lineB (PanelUnit.atReset false)).panel .b).receiver = .waitHigh ∧
      ((lineB (PanelUnit.atReset false)).panel .b).lineHigh = false) := by decide

/-- A false start, a low stop bit, an odd count of ones and the character 195, each with its eight data bits. -/
theorem witness_PanelCharacterTable :
    (lineB (watching .awaitLead)).running = true ∧ ((lineB (watching .awaitLead)).panel .b).receiver = .watching ∧
    (∀ x ∈ [0b10110000111#11, 0b00110000110#11, 0b11110000110#11, 0b10110000110#11], ∀ k < 8,
      (195#8).getLsbD k = x.getLsbD (k + 1)) ∧
    (0b10110000111#11).getLsbD 0 = true ∧
    ((0b00110000110#11).getLsbD 0 = false ∧ (0b00110000110#11).getLsbD 10 = false) ∧
    ((List.range 9).countP fun k => (0b11110000110#11).getLsbD (k + 1)) % 2 = 1 ∧
    ((0b10110000110#11).getLsbD 0 = false ∧ (0b10110000110#11).getLsbD 10 = true ∧
      ((List.range 9).countP fun k => (0b10110000110#11).getLsbD (k + 1)) % 2 = 0) := by decide

/-- A full slot; standby without and with wake on panel; kinds 0x0F, 0x1A and wrong lengths at kinds 0x10 and 0x19. -/
theorem witness_FrameChecksInOrder :
    (queued []).running = true ∧ ((lineB (busy (.full ⟨0x83#8, []⟩))).panel .b).slot ≠ .empty ∧
    ((queued []).panel .a).slot = .empty ∧ (queued []).desk.standby = false ∧
    (∀ wake, let s := { queued [] with desk := { (queued []).desk with
        standby := true, settings := { Settings.default with wakeOnPanel := wake } } }
      s.running = true ∧ (s.panel .a).slot = .empty ∧ s.desk.standby = true ∧ s.desk.settings.wakeOnPanel = wake) ∧
    ¬((((queued []).setDesk { (queued []).desk with standby := false }).raise .woke).setFront
      { (queued []).front with activity := .settling, settleTimer := some 20 }).ReadyButForCredits ∧
    ((0x0F#8).toNat < 0x10 ∧ 0x19 < (0x1A#8).toNat) ∧
    ([6, 1, 2, 1, 0, 0, 1, 1, 0, 1][(0x10#8).toNat - 0x10]? ≠ some [0#8].length ∧
      [6, 1, 2, 1, 0, 0, 1, 1, 0, 1][(0x19#8).toNat - 0x10]? ≠ some ([] : List Byte).length) :=
  ⟨by decide, by decide, by decide, by decide, by decide, fun h => absurd h.2.2.2.1 (by decide), by decide, by decide⟩

theorem witness_ShiftCompletionAndLineHigh :
    (∃ sent r, ((lineB (busy (.full ⟨0x83#8, []⟩))).panel .b).shift = some sent ∧
      ((lineB (busy (.full ⟨0x83#8, []⟩))).panel .b).slot = .full r) ∧
    (∃ sent, ((lineB (busy .empty)).panel .b).shift = some sent ∧ ((lineB (busy .empty)).panel .b).slot = .empty) ∧
    (lineB (busy .empty)).running = true ∧ (after (.deskReset []) (queued [])).running = false :=
  ⟨⟨_, _, rfl, rfl⟩, ⟨_, rfl, rfl⟩, by decide⟩

/-! ## Chapter 3: the worked sequences of section 3.7 -/

/-- Entry 12, song 104220. -/
def entry12 : Entry := { entry 12 with song := 104220 }

/-- The header of the worked load. -/
def header12 : BankHeader :=
  { entryId := 12, song := 104220, step := 500, lines := 2, syllables := 5, glyphs := 15, notes := 3, length := 30000 }

/-- The STAGE OPEN payload of that header. -/
def open12 : List Byte :=
  [12#8, 0x01#8, 0x97#8, 0x1C#8, 0x01#8, 0xF4#8, 0#8, 2#8, 0#8, 5#8, 0#8, 15#8, 0#8, 3#8, 0#8, 0x75#8, 0x30#8]

/-- Line 0: start 4000, BOTH, three syllables, eleven glyph codes. -/
def line0 : List Byte :=
  [12#8, 0#8, 0#8, 0x0F#8, 0xA0#8, 3#8, 0#8, 0#8, 3#8,
    0#8, 0#8, 0#8, 0x01#8, 0x2C#8, 3#8, 0#8, 0x01#8, 0x2C#8, 0x01#8, 0xF4#8, 4#8, 0#8, 0x03#8, 0xE8#8, 0x02#8, 0x58#8, 4#8] ++
  List.replicate 22 7#8

/-- Line 1 of one syllable at this start. -/
def line1 (start : Nat) : List Byte :=
  [12#8, 1#8, byteOf (start / 65536), byteOf (start / 256), byteOf start, 1#8, 0#8, 0#8, 1#8,
    0#8, 0#8, 0#8, 0x01#8, 0x90#8, 2#8, 0#8, 65#8, 0#8, 66#8]

/-- A note: index, start, duration, number, part, golden. -/
def noteBytes (index start duration number part golden : Nat) : List Byte :=
  [12#8, byteOf (index / 256), byteOf index, byteOf (start / 65536), byteOf (start / 256), byteOf start,
    byteOf (duration / 256), byteOf duration, byteOf number, byteOf part, byteOf golden]

/-- A bank with the header of the worked load. -/
def bankOf (counts : StoredCounts) (marks : TrackMarks) : Bank :=
  { header := some header12, lyrics := [], notes := [], counts := counts, marks := marks }

/-- Entry 12 at the head, its load in this state with this bank. -/
def loading (st : StagingState) (b : Bank) : State :=
  ready (roomOf [entry12]) { asked [entry12] with bank0 := b, state := st } Deck.atReset Grader.atReset Results.atReset

theorem loading_staging (counts : StoredCounts) (marks : TrackMarks) : (loading .loading (bankOf counts marks)).StagingRule :=
  ⟨rfl, ⟨fun h => StagingState.noConfusion h, fun h => absurd h (List.cons_ne_nil _ _)⟩, header12, rfl, rfl⟩

/-- A complete load, step 1. -/
theorem test_stage_open :
    let s := after (.stageOpen open12 (checkOf 1#8 open12)) (queued [entry12])
    s.store.state = .loading ∧ s.store.staging.header = some header12 ∧
    s.port.lastAnswer = ⟨.ok, [2#8, 12#8, 0#8, 0#8, 0#8, 0#8, 0#8, 0#8, 0#8, 0#8]⟩ ∧ s.port.changeCount = 0 := by decide +kernel

/-- A complete load, step 2. -/
theorem test_line :
    let s := after (.line line0 (checkOf 2#8 line0)) (loading .loading (bankOf ⟨0, 0, 0, 0⟩ ⟨0, 0, 0, 0⟩))
    s.store.staging.counts = ⟨1, 3, 11, 0⟩ ∧ s.store.staging.marks = ⟨5600, 0, 0, 0⟩ ∧ s.port.lastAnswer.code = .ok := by
  decide +kernel

/-- A complete load, step 3: line 1 begins before line 0 has ended. -/
theorem test_line_order :
    let s := after (.line (line1 5500) (checkOf 2#8 (line1 5500))) (loading .loading (bankOf ⟨1, 3, 11, 0⟩ ⟨5600, 0, 0, 0⟩))
    s.port.lastAnswer.code = .order ∧ s.store.staging.counts = ⟨1, 3, 11, 0⟩ := by decide +kernel

/-- A complete load, step 7: the BOTH note begins before part 2's reach. -/
theorem test_note_order :
    let p := noteBytes 2 4500 300 62 3 0
    (after (.note p (checkOf 3#8 p)) (loading .loading (bankOf ⟨2, 5, 15, 2⟩ ⟨7200, 4300, 4600, 4700⟩))).port.lastAnswer.code =
      .order := by decide +kernel

/-- A complete load, step 8. -/
theorem test_note :
    let p := noteBytes 2 4700 900 62 3 1
    let s := after (.note p (checkOf 3#8 p)) (loading .loading (bankOf ⟨2, 5, 15, 2⟩ ⟨7200, 4300, 4600, 4700⟩))
    s.store.staging.notes = [⟨4700, 900, 62, .both, true⟩] ∧ s.store.staging.counts = ⟨2, 5, 15, 3⟩ ∧
    s.store.staging.marks = ⟨7200, 4700, 5600, 5600⟩ := by decide +kernel

/-- A complete load, step 9: the stage fields become NONE, 0, 0 when the deck cannot start. -/
theorem test_stage_close :
    let s := loading .loading (bankOf ⟨2, 5, 15, 3⟩ ⟨7200, 4700, 5600, 5600⟩)
    let locked := after (.stageClose [12#8] (checkOf 4#8 [12#8])) { s with room := { s.room with locked := true } }
    locked.store.state = .ready ∧ locked.port.directive.stageId = 0 ∧ locked.port.changeCount = 1 ∧
    (after (.stageClose [12#8] (checkOf 4#8 [12#8])) s).deck.state = .starting := by decide +kernel

/-- A load overtaken by the queue, step 4: the answer shows the counts before the clearing. -/
theorem test_stage_close_mismatch :
    let s := after (.stageClose [12#8] (checkOf 4#8 [12#8])) (loading .loading (bankOf ⟨1, 3, 11, 0⟩ ⟨5600, 0, 0, 0⟩))
    s.store.state = .requested ∧ s.store.staging = Bank.cleared ∧
    s.port.lastAnswer = ⟨.countMismatch, [2#8, 12#8, 0#8, 1#8, 0#8, 3#8, 0#8, 11#8, 0#8, 0#8]⟩ := by decide +kernel

/-- A load overtaken by the queue, step 5. -/
theorem test_stage_fail :
    let s := after (.stageFail [13#8, 9#8] (checkOf 5#8 [13#8, 9#8])) (queued [entry 13, entry12])
    s.room.entries.map (·.id) = [12] ∧ s.store.owner = some 12 ∧ s.store.state = .requested ∧
    s.results.history.map (fun r => (r.id, r.outcome, r.finish)) = [(13, .noStage, 1)] ∧
    s.port.directive.stageSong = 104220 := by decide +kernel

/-- A load overtaken by the queue, step 2. -/
theorem test_line_stale :
    (after (.line line0 (checkOf 2#8 line0)) (queued [entry 13, entry12])).port.lastAnswer.code = .stale := by decide +kernel

/-! ### What meets the statements of chapter 3 -/

/-- The open payload with its entry id, its step or its line count replaced. -/
def openWith (id : Byte) (step lines : Nat) : List Byte :=
  [id, 0x01#8, 0x97#8, 0x1C#8, byteOf (step / 256), byteOf step, byteOf (lines / 256), byteOf lines, 0#8, 5#8, 0#8, 15#8, 0#8,
    3#8, 0#8, 0x75#8, 0x30#8]

/-- An unmatched id, 257 lines, steps of 149 and 2001 ms, and steps of 150 and 2000 ms. -/
theorem witness_StageOpenStoresHeader :
    (queued [entry12]).AtCheck ∧ (queued [entry12]).StagingRule ∧ (queued [entry12]).Posted ∧
    (∀ p ∈ [openWith 11#8 500 2, openWith 12#8 500 257, openWith 12#8 149 2, openWith 12#8 2001 2, openWith 12#8 150 2,
      openWith 12#8 2000 2], p.length = 17 ∧ (queued [entry12]).AtCheck) ∧
    SumsToZero 1#8 (openWith 11#8 500 2) (checkOf 1#8 (openWith 11#8 500 2)) ∧
    SumsToZero 1#8 (openWith 12#8 500 257) (checkOf 1#8 (openWith 12#8 500 257)) ∧
    SumsToZero 1#8 (openWith 12#8 149 2) (checkOf 1#8 (openWith 12#8 149 2)) ∧
    SumsToZero 1#8 (openWith 12#8 150 2) (checkOf 1#8 (openWith 12#8 150 2)) ∧
    (queued [entry12]).store.owner ≠ some 11 ∧ (queued [entry12]).store.owner = some 12 ∧
    (queued [entry12]).store.state ≠ .empty ∧ (queued [entry12]).room.entries.head?.map (·.song) = some 104220 :=
  ⟨ready_at_check .., queued_staging _, ready_posted .., fun p hp => ⟨by revert p; decide, ready_at_check ..⟩, rfl, rfl, rfl,
    rfl, by decide⟩

/-- Line 0 in a bank that awaits it, and the places in which it is refused. -/
theorem witness_LineStoresRecord :
    let ys : List Syllable := [⟨0, 300, 3⟩, ⟨300, 500, 4⟩, ⟨1000, 600, 4⟩]
    let codes : List (BitVec 16) := List.replicate 11 0x0707#16
    codes.length = (ys.map (·.glyphs)).sum ∧
    line0 = [byteOf 12, byteOf 0, byteOf (4000 / 65536), byteOf (4000 / 256), byteOf 4000, 3#8, byteOf 0, byteOf 0, byteOf 3] ++
      ys.flatMap (fun y => [byteOf (y.offset / 65536), byteOf (y.offset / 256), byteOf y.offset, byteOf (y.duration / 256),
        byteOf y.duration, byteOf y.glyphs]) ++ codes.flatMap (fun g => [byteOf (g.toNat / 256), byteOf g.toNat]) ∧
    SumsToZero 2#8 line0 (checkOf 2#8 line0) ∧
    (∀ counts marks, (loading .loading (bankOf counts marks)).AtCheck ∧
      (loading .loading (bankOf counts marks)).StagingRule ∧ (loading .loading (bankOf counts marks)).store.owner = some 12 ∧
      (loading .loading (bankOf counts marks)).store.state = .loading ∧
      (loading .loading (bankOf counts marks)).store.staging.header = some header12) ∧
    ((queued [entry 13]).AtCheck ∧ (queued [entry 13]).StagingRule ∧ (queued [entry 13]).store.owner ≠ some 12) ∧
    ((queued [entry12]).AtCheck ∧ (queued [entry12]).StagingRule ∧ (queued [entry12]).store.owner = some 12 ∧
      (queued [entry12]).store.state ≠ .loading) ∧
    -- accepted; out of order behind an end at 4001; too large behind 3 syllables; bad with 33 syllables or part 4
    (¬(0 ≠ 0 ∨ 4000 < 4000) ∧ ¬(header12.lines < 0 + 1 ∨ header12.syllables < 0 + 3 ∨ header12.glyphs < 0 + 11) ∧
      ¬(header12.length < 5600) ∧ 4000 < 4001 ∧ header12.syllables < 3 + 3 ∧ (∃ pt : Part, pt.code = 3#8) ∧
      ((0#8).toNat < 1 ∧ 3 < (4#8).toNat)) :=
  ⟨by decide, by decide, rfl, fun _ _ => ⟨ready_at_check .., loading_staging .., rfl, rfl, rfl⟩,
    ⟨ready_at_check .., queued_staging _, by decide⟩, ⟨ready_at_check .., queued_staging _, rfl, by decide⟩,
    by decide, by decide, by decide, by decide, by decide, ⟨.both, rfl⟩, by decide⟩

theorem witness_NoteStoresRecord :
    (∀ number ∈ [35, 36, 84, 85], (noteBytes 2 4700 900 number 3 1).length = 11) ∧
    SumsToZero 3#8 (noteBytes 2 4700 900 36 3 1) (checkOf 3#8 (noteBytes 2 4700 900 36 3 1)) ∧
    SumsToZero 3#8 (noteBytes 2 4700 900 85 3 1) (checkOf 3#8 (noteBytes 2 4700 900 85 3 1)) ∧
    SumsToZero 3#8 (noteBytes 2 4699 900 36 3 1) (checkOf 3#8 (noteBytes 2 4699 900 36 3 1)) ∧
    SumsToZero 3#8 (noteBytes 3 4700 900 36 3 1) (checkOf 3#8 (noteBytes 3 4700 900 36 3 1)) ∧
    (∀ counts marks, (loading .loading (bankOf counts marks)).AtCheck ∧
      (loading .loading (bankOf counts marks)).StagingRule ∧ (loading .loading (bankOf counts marks)).store.owner = some 12) ∧
    -- accepted, in order at the reach 4700 and with one note to come; one note too many
    (2 < header12.notes ∧ header12.notes ≤ 3 ∧ ¬(4700 < 4300) ∧ ¬(4700 < 4700) ∧ 4699 < 4700 ∧ 4700 + 900 ≤ header12.length) ∧
    (queued [entry 13]).store.owner ≠ some 12 ∧ (queued [entry12]).store.state ≠ .loading :=
  ⟨by decide, rfl, rfl, rfl, rfl, fun _ _ => ⟨ready_at_check .., loading_staging .., rfl⟩, by decide⟩

/-- Counts that agree with a start, with a shortage and with no start; and counts that differ. -/
theorem witness_StageCloseComparesCounts :
    let b := bankOf ⟨2, 5, 15, 3⟩ ⟨0, 0, 0, 0⟩
    let locked := ready { roomOf [entry12] with locked := true } (loading .loading b).store Deck.atReset Grader.atReset
      Results.atReset
    let short := ready { roomOf [entry12] with credits := 0 } (loading .loading b).store Deck.atReset Grader.atReset
      Results.atReset
    let readied (s : State) := s.setStore { s.store with state := .ready }
    SumsToZero 4#8 [12#8] (checkOf 4#8 [12#8]) ∧ SumsToZero 4#8 [11#8] (checkOf 4#8 [11#8]) ∧
    ((loading .loading b).AtCheck ∧ (loading .loading b).StagingRule ∧ (loading .loading b).Posted) ∧
    b.counts = ⟨header12.lines, header12.syllables, header12.glyphs, header12.notes⟩ ∧
    (bankOf ⟨2, 5, 15, 2⟩ ⟨0, 0, 0, 0⟩).counts ≠ ⟨header12.lines, header12.syllables, header12.glyphs, header12.notes⟩ ∧
    (readied (loading .loading b)).ReadyButForCredits ∧ 1 ≤ (loading .loading b).room.credits ∧
    (locked.StagingRule ∧ locked.Posted ∧ ¬(readied locked).ReadyButForCredits) ∧
    (short.StagingRule ∧ short.Posted ∧ (readied short).ReadyButForCredits ∧ short.room.credits = 0 ∧
      short.room.unlimited = false) ∧
    (queued [entry12]).store.state ≠ .loading ∧ (queued [entry12]).store.owner ≠ some 11 :=
  ⟨rfl, rfl, ⟨ready_at_check .., loading_staging .., ready_posted ..⟩, rfl, by decide,
    ⟨rfl, rfl, rfl, List.cons_ne_nil _ _, rfl⟩, by decide,
    ⟨⟨rfl, ⟨fun h => StagingState.noConfusion h, fun h => absurd h (List.cons_ne_nil _ _)⟩, header12, rfl, rfl⟩, rfl,
      fun h => Bool.noConfusion h.2.2.1⟩,
    ⟨⟨rfl, ⟨fun h => StagingState.noConfusion h, fun h => absurd h (List.cons_ne_nil _ _)⟩, header12, rfl, rfl⟩, rfl,
      ⟨rfl, rfl, rfl, List.cons_ne_nil _ _, rfl⟩, rfl, rfl⟩, by decide, by decide⟩

theorem witness_StageFailRemovesHead :
    let s := queued [entry 13, entry12]
    s.AtCheck ∧ SumsToZero 5#8 [13#8, 0#8] (checkOf 5#8 [13#8, 0#8]) ∧ SumsToZero 5#8 [12#8, 0#8] (checkOf 5#8 [12#8, 0#8]) ∧
    s.StagingRule ∧ s.Posted ∧ (s.room.entries.map (·.id)).Nodup ∧ s.store.owner ≠ some 12 ∧
    s.room.entries = [entry 13, entry12] :=
  ⟨ready_at_check .., rfl, rfl, queued_staging _, ready_posted .., by decide, by decide, rfl⟩

/-! ## Chapter 4: the worked sequences of section 4.8 -/

/-- A song of entry 21: two lines and two notes. -/
def song : Bank :=
  { header := some ⟨21, 121, 500, 2, 4, 12, 2, 30000⟩
    lyrics := [⟨4000, .both, none, [⟨0, 300, 3⟩, ⟨300, 500, 4⟩, ⟨1000, 600, 4⟩], List.replicate 11 1#16, 5600⟩,
      ⟨9600, .part1, some 300, [⟨0, 400, 1⟩], [1#16], 10000⟩]
    notes := [⟨4000, 600, 60, .part1, false⟩, ⟨4300, 400, 64, .part2, false⟩]
    counts := ⟨2, 4, 12, 2⟩, marks := ⟨10000, 4300, 4600, 4700⟩ }

/-- The deck in a state with its clock at F, B and E, and the timers of the state. -/
def clock (st : DeckState) (f b e : Nat) : Deck :=
  { state := st, current := some (entry 21), stopId := 21, reached := true, floor := f, lastMark := b, elapsed := e,
    startTimer := none, stallTimer := if st = .playing then some (500 - e) else none,
    stallLimit := if st = .stalled then some 8000 else none, stopTimer := none }

/-- The deck at a start, its start timer with this left. -/
def starting (left : Nat) : Deck :=
  { state := .starting, current := some (entry 21), stopId := 21, reached := false, floor := 0, lastMark := 0, elapsed := 0,
    startTimer := some left, stallTimer := none, stallLimit := none, stopTimer := none }

/-- The deck in STOPPING, its stop timer with this left. -/
def stoppingDeck (reached : Bool) (left : Nat) : Deck :=
  { state := .stopping, current := some { entry 21 with id := 0 }, stopId := 21, reached := reached, floor := 900,
    lastMark := 900, elapsed := 0, startTimer := none, stallTimer := none, stallLimit := none, stopTimer := some left }

/-- Microphone A of a SOLO_A entry that follows part 1. -/
def following : Grader :=
  { Grader.atReset with mode := .following, micA := { MicGrade.unscored with parts := some .part1 } }

/-- A controller whose playing bank holds the song and whose deck is this. -/
def deckIn (d : Deck) : State := ready (roomOf []) { SongStore.atReset with bank1 := song } d following Results.atReset

/-- A time mark of entry 21. -/
def markBytes (m : Nat) (kind : Byte) : List Byte := [21#8, byteOf (m / 65536), byteOf (m / 256), byteOf m, kind]

/-- The state after a RUN mark, and after an END mark, of entry 21. -/
def run (m : Nat) (d : Deck) : State := after (.timeMarkRun (markBytes m 1#8) (checkOf 6#8 (markBytes m 1#8))) (deckIn d)
def finish (m : Nat) (d : Deck) : State := after (.timeMarkEnd (markBytes m 2#8) (checkOf 6#8 (markBytes m 2#8))) (deckIn d)

/-- One song, at 640: the first mark takes a credit. -/
theorem test_first_mark :
    let s := run 120 (starting 2360)
    s.deck = clock .playing 120 120 0 ∧ s.room.credits = 1 ∧ s.lyric.inbox = [⟨.step, 120⟩] ∧
    s.port.lastAnswer = ⟨.ok, [2#8, 21#8, 0#8, 0#8, 120#8]⟩ := by decide +kernel

/-- One song, at 840, 890 and 2590: a held mark and two forward ones. -/
theorem test_run_marks :
    (run 310 (clock .playing 120 120 200)).deck = clock .playing 320 310 0 ∧
    (run 400 (clock .playing 320 310 50)).deck = clock .playing 400 400 0 ∧
    (run 1000 (clock .stalled 900 400 500)).deck = clock .playing 1000 1000 0 := by decide +kernel

/-- One song, at 2790 and 2890: a rise of 1200 and a fall of 400. -/
theorem test_jump_and_rewind :
    (run 2400 (clock .playing 1000 1000 200)).lyric.inbox = [⟨.jump, 2400⟩] ∧
    (run 2100 (clock .playing 2400 2400 100)).deck = clock .playing 2100 2100 0 ∧
    (run 2100 (clock .playing 2400 2400 100)).grader.inbox = [⟨.rewind, 2100⟩] := by decide +kernel

/-- One song, at 1390: the tick that brings E to 500 hands its advance and stalls. -/
theorem test_stall :
    let s := after .millisecondTick (deckIn (clock .playing 400 400 499))
    s.deck = clock .stalled 900 400 500 ∧ s.lyric.inbox = [⟨.step, 900⟩] ∧ s.desk.flags.stall = true := by decide +kernel

/-- A start that came too late, at 3000, 3400 and 3600. -/
theorem test_no_start :
    let s := after .startTimerExpiry (deckIn (starting 0))
    s.deck.state = .stopping ∧ s.deck.stopId = 21 ∧ s.port.directive.playOrder = .stop ∧
    s.results.history.map (·.outcome) = [.noStart] ∧ s.desk.flags.songDone = true ∧
    (run 0 (stoppingDeck false 1600)).port.lastAnswer.code = .stale ∧ (finish 0 (stoppingDeck false 1400)).deck.state = .idle := by
  decide +kernel

/-- Pause across a media seek. -/
theorem test_pause_and_seek :
    (after (.hold .a []) (deckIn (clock .playing 45000 45000 200))).deck.floor = 45200 ∧
    (run 44600 (clock .paused 45200 45180 200)).deck = clock .paused 45200 44600 200 ∧
    (after (.go .b []) (deckIn (clock .paused 45200 44600 200))).deck = clock .playing 44600 44600 0 ∧
    (after (.go .b []) (deckIn (clock .paused 45200 44600 200))).lyric.inbox = [⟨.rewind, 44600⟩] ∧
    (after (.go .b []) (deckIn (clock .paused 45200 45180 200))).deck.floor = 45200 := by decide +kernel

/-- R85: the key shift is clamped, and the directive follows. -/
theorem test_key :
    let s := after (.key .a [0xF4#8]) (deckIn (clock .playing 0 0 0))
    s.port.directive.keyShift = -6 ∧ s.panelA.shift.map (·.reply.payload) = some [0x16#8, 0xFA#8] := by decide +kernel

/-- R86, R89: an END mark completes the song. -/
theorem test_end_mark :
    let s := finish 29000 (clock .playing 28000 28000 100)
    s.deck = Deck.atReset ∧ s.results.history.map (fun r => (r.outcome, r.duration)) = [(.completed, 29000)] ∧
    s.port.directive.playOrder = .none := by decide +kernel

/-- R88: SKIP NOW and STOP SONG. -/
theorem test_skip_and_stop :
    (after (.skipNow .a [21#8]) (deckIn (clock .playing 5000 5000 10))).results.history.map (·.outcome) = [.skipped] ∧
    (after (.stopSong []) (deckIn (clock .paused 5000 5000 10))).results.history.map (fun r => (r.outcome, r.duration)) =
      [(.stopped, 5000)] ∧
    (after (.skipNow .a [22#8]) (deckIn (clock .playing 5000 5000 10))).panelA.shift.map (·.reply.payload) =
      some [0x13#8, 9#8] := by decide +kernel

/-- R81, R91: the stall limit and the stop timer. -/
theorem test_limit_and_stop_timer :
    let s := after .stallLimitExpiry (deckIn { clock .stalled 900 400 500 with stallLimit := some 0 })
    s.results.history.map (fun r => (r.outcome, r.duration)) = [(.mediaLost, 900)] ∧ s.desk.flags.mediaLost = true ∧
    (after .stopTimerExpiry (deckIn (stoppingDeck true 0))).deck = Deck.atReset := by decide +kernel

/-- R80: the stall timer's expiry is the tick that brings E to 500. -/
theorem test_stall_timer_expiry :
    after .stallTimerExpiry (deckIn (clock .playing 400 400 499)) = after .millisecondTick (deckIn (clock .playing 400 400 499)) ∧
    after .stallTimerExpiry (deckIn (clock .playing 400 400 498)) = deckIn (clock .playing 400 400 498) := by decide +kernel

/-! ### What meets the statements of chapter 4 -/

theorem reset_results_rule : Results.atReset.Rule := by constructor <;> simp [Results.atReset]

/-- In IDLE, of another id, past the greatest media time, and of kinds 0 and 3. -/
theorem witness_TimeMarkRefusals :
    (deckIn (clock .playing 0 0 0)).AtCheck ∧ (deckIn Deck.atReset).AtCheck ∧ (deckIn (starting 1)).AtCheck ∧
    SumsToZero 6#8 (markBytes 3600000 1#8) (checkOf 6#8 (markBytes 3600000 1#8)) ∧
    SumsToZero 6#8 (markBytes 0 0#8) (checkOf 6#8 (markBytes 0 0#8)) ∧
    SumsToZero 6#8 (markBytes 0 3#8) (checkOf 6#8 (markBytes 0 3#8)) ∧
    3599999 < fieldAt (markBytes 3600000 1#8) 1 3 ∧ (byteAt (markBytes 0 3#8) 0).toNat = (clock .playing 0 0 0).stopId ∧
    (byteAt (markBytes 0 3#8) 0).toNat ≠ { clock .playing 0 0 0 with stopId := 20 }.stopId :=
  ⟨ready_at_check .., ready_at_check .., ready_at_check .., rfl, rfl, rfl, by decide +kernel⟩

/-- Media times level with play time 500, 250 and 251 behind it, 1000 and 1001 ahead; and every deck state. -/
theorem witness_RunMarkInEachState :
    (∀ d, (deckIn d).AtCheck) ∧
    (∀ m ∈ [500, 250, 249, 1500, 1501, 3599999], (markBytes m 1#8).length = 5 ∧ byteAt (markBytes m 1#8) 4 = 1#8 ∧
      fieldAt (markBytes m 1#8) 1 3 = m ∧ m ≤ 3599999 ∧
      (6 + 5 + ((markBytes m 1#8).map BitVec.toNat).sum + (checkOf 6#8 (markBytes m 1#8)).toNat) % 256 = 0) ∧
    (∀ d ∈ [starting 3000, clock .playing 400 400 100, clock .stalled 500 400 500, clock .paused 500 400 500,
      stoppingDeck true 2000, stoppingDeck false 2000], (byteAt (markBytes 500 1#8) 0).toNat = d.stopId ∧ d.floor ≤ 3599999) ∧
    (clock .playing 400 400 100).playTime = 500 :=
  ⟨fun _ => ready_at_check .., by decide +kernel⟩

theorem witness_EndMarkInEachState :
    (∀ d, (deckIn d).AtCheck ∧ (deckIn d).Posted ∧ (deckIn d).results.Rule ∧
      (deckIn d).deck.stopId ∉ (deckIn d).room.entries.map (·.id)) ∧
    SumsToZero 6#8 (markBytes 3599999 2#8) (checkOf 6#8 (markBytes 3599999 2#8)) ∧
    (byteAt (markBytes 3599999 2#8) 4 = 2#8 ∧ fieldAt (markBytes 3599999 2#8) 1 3 ≤ 3599999) ∧
    (∀ d ∈ [starting 0, clock .playing 0 0 499, clock .stalled 500 400 500, clock .paused 0 0 0],
      d.current = some (entry 21) ∧ (byteAt (markBytes 3599999 2#8) 0).toNat = d.stopId ∧ d.floor ≤ 3599999) ∧
    ((starting 0).reached = false ∧ (deckIn (starting 0)).grader.mode = .following ∧
      (deckIn (starting 0)).grader.inbox = []) ∧
    (stoppingDeck true 0).state = .stopping :=
  ⟨fun _ => ⟨ready_at_check .., ready_posted .., reset_results_rule, List.not_mem_nil⟩, rfl, by decide +kernel⟩

/-- In PAUSED with the floor 250 and 251 ahead of the last mark, and 1000 and 1001 behind it. -/
theorem witness_HoldAndGo :
    (∀ d l, (deckIn d).Takes l ∧ (deckIn d).Posted) ∧
    ((clock .playing 0 0 0).state = .playing ∧ (clock .stalled 0 0 0).state = .stalled ∧ Deck.atReset.state = .idle) ∧
    (∀ d ∈ [clock .paused 500 250 0, clock .paused 501 250 0, clock .paused 0 1000 0, clock .paused 0 1001 0],
      d.state = .paused ∧ d.floor ≤ 3599999 ∧ d.lastMark ≤ 3599999) :=
  ⟨fun _ _ => ⟨ready_takes .., ready_posted ..⟩, by decide, by decide⟩

theorem witness_KeyChange :
    (∀ d l, (deckIn d).Takes l ∧ (deckIn d).Posted) ∧ (∀ b ∈ [0x80#8, 0xF4#8, 12#8, 127#8], [b].length = 1) ∧
    (∀ st ∈ [DeckState.playing, .paused, .stalled], (clock st 0 0 0).state = st ∧
      (clock st 0 0 0).current = some (entry 21)) ∧
    (Deck.atReset.state = .idle ∧ (starting 0).state = .starting ∧ (stoppingDeck true 0).state = .stopping) :=
  ⟨fun _ _ => ⟨ready_takes .., ready_posted ..⟩, by decide, by decide, by decide⟩

theorem witness_SkipAndStopSong :
    (∀ d l, (deckIn d).Takes l ∧ (deckIn d).AtWrite ∧ (deckIn d).Posted ∧ (deckIn d).desk.settings.skipAllowed = true) ∧
    (∃ s : State, s.Takes .a ∧ s.desk.settings.skipAllowed = false) ∧
    (Deck.atReset.state = .idle ∧ (stoppingDeck true 0).state = .stopping) ∧
    ((starting 0).current.map (·.id) = some 21 ∧ (starting 0).current.map (·.id) ≠ some 22) ∧
    ((starting 0).state = .starting ∧ (starting 0).reached = false ∧ (starting 0).floor = 0 ∧
      (deckIn (starting 0)).grader.mode = .following ∧ (deckIn (starting 0)).grader.inbox = []) ∧
    (∀ st ∈ [DeckState.playing, .paused, .stalled], (clock st 0 0 0).reached = true ∧
      (clock st 0 0 0).current = some (entry 21)) :=
  ⟨fun _ _ => ⟨ready_takes .., ready_at_write .., ready_posted .., rfl⟩,
    ⟨{ queued [] with desk := { (queued []).desk with settings := { Settings.default with skipAllowed := false } } },
      ⟨rfl, rfl, rfl⟩, rfl⟩, by decide, by decide, by decide, by decide⟩

theorem witness_DeckTimerExpiries :
    (∀ d, (deckIn d).running = true ∧ (deckIn d).Posted) ∧
    ((starting 0).startTimer = some 0 ∧ (starting 0).reached = false ∧ (starting 0).floor = 0 ∧
      (starting 0).current = some (entry 21) ∧ following.mode = .following ∧ following.inbox = []) ∧
    (∃ d : Deck, d.state = .stalled ∧ d.stallLimit = some 0 ∧ d.reached = true ∧ d.current = some (entry 21)) ∧
    ((stoppingDeck true 0).state = .stopping ∧ (stoppingDeck true 0).stopTimer = some 0) ∧
    ((starting 1).startTimer ≠ some 0 ∧ (clock .stalled 0 0 0).stallLimit ≠ some 0 ∧
      (stoppingDeck true 1).stopTimer ≠ some 0) :=
  ⟨fun _ => ⟨rfl, ready_posted ..⟩, by decide, ⟨{ clock .stalled 0 0 0 with stallLimit := some 0 }, by decide⟩, by decide,
    by decide⟩

/-- In IDLE, and in PLAYING with E at 498 and at 499. -/
theorem witness_TickCountsAndStalls :
    (∀ e, e = 498 ∨ e = 499 → (deckIn (clock .playing 0 0 e)).running = true ∧ (deckIn (clock .playing 0 0 e)).deck.Rule) ∧
    ((deckIn Deck.atReset).running = true ∧ (deckIn Deck.atReset).deck.Rule) := by
  refine ⟨fun e he => ⟨rfl, ?_, ?_, ?_, ?_⟩, rfl, rfl, ?_, ?_, ?_⟩
  · refine ⟨⟨entry 21, rfl, rfl⟩, rfl, ?_, rfl, rfl, rfl, rfl⟩
    rcases he with rfl | rfl <;> decide
  all_goals (try rcases he with rfl | rfl) <;> decide

/-! ### Of chapter 2, with a current entry -/

theorem witness_PeekNowReport :
    ((deckIn Deck.atReset).Takes .a ∧ (deckIn Deck.atReset).deck.state = .idle) ∧
    ((deckIn (clock .playing 5000 5000 0)).Takes .b ∧ (deckIn (clock .playing 5000 5000 0)).deck.state ≠ .idle ∧
      (deckIn (clock .playing 5000 5000 0)).deck.current = some (entry 21) ∧
      ∃ h, (deckIn (clock .playing 5000 5000 0)).store.playing.header = some h) :=
  ⟨⟨ready_takes .., rfl⟩, ready_takes .., by decide, rfl, _, rfl⟩

theorem witness_HistoryPages :
    (queued []).Takes .a ∧ (queued []).AtWrite ∧ [0#8].length = 1 ∧ [16#8].length = 1 :=
  ⟨ready_takes .., ready_at_write .., by decide⟩

/-- R43: the report of a song played for 5000 ms of 30000 (0x7530). -/
theorem test_peek_now :
    (after (.peekNow .a []) (deckIn (clock .playing 5000 5000 0))).panelA.shift.map (·.reply.payload) =
      some [2#8, 21#8, 0#8, 0#8, 121#8, 3#8, 1#8, 0#8, 1#8, 0#8, 0#8, 0x13#8, 0x88#8, 0#8, 0x75#8, 0x30#8, 0xFF#8, 0xFF#8, 0xFF#8,
        0xFF#8, 0#8, 0#8, 2#8, 0#8, 0#8] := by decide +kernel

/-! ## Chapter 5: the wipe of section 5.5 and the window through a song of section 5.10 -/

/-- The line of the worked case: three syllables from 60000. -/
def wipeLine : LyricLine :=
  ⟨60000, .both, none, [⟨0, 300, 3⟩, ⟨300, 500, 4⟩, ⟨1000, 600, 4⟩], List.replicate 11 1#16, 61600⟩

/-- Section 5.5, every row of the table. -/
theorem test_wipe :
    [59900, 60450, 60900, 61300, 61600].map wipeLine.wipeAt = [0, 67, 112, 144, 176] ∧
    [59999, 60000, 61599, 61600].map wipeLine.stateAt = [.upcoming, .singing, .singing, .sung] := by decide +kernel

/-- A line of one syllable. -/
def plainLine (start length : Nat) (part : Part) : LyricLine :=
  ⟨start, part, none, [⟨0, length, 2⟩], [1#16, 1#16], start + length⟩

/-- The five lines of the song. -/
def fiveLines : Bank :=
  { header := some ⟨21, 121, 500, 5, 9, 21, 0, 30000⟩
    lyrics := [⟨4000, .both, none, [⟨0, 300, 3⟩, ⟨300, 500, 4⟩, ⟨1000, 600, 4⟩], List.replicate 11 1#16, 5600⟩,
      ⟨6000, .part1, none, [⟨0, 400, 2⟩, ⟨500, 700, 2⟩], List.replicate 4 1#16, 7200⟩, plainLine 7400 1600 .part2,
      plainLine 9100 1400 .both, plainLine 16000 2000 .both]
    notes := [], counts := ⟨5, 9, 21, 0⟩, marks := ⟨18000, 0, 0, 0⟩ }

/-- The sequencer with its window, cursor, scroll, countdown and search index. -/
def sequencer (window : List Nat) (cursor : Nat) (scroll : Option Scroll) (countdown : Option Countdown) (search : Nat)
    (inbox : List Advance) : Sequencer :=
  { Sequencer.atReset with
    window := window, cursor := cursor, scroll := scroll, countdown := countdown, search := search, inbox := inbox }

/-- A controller that plays the five lines with this sequencer. -/
def singing (t : Nat) (q : Sequencer) : State :=
  { ready (roomOf []) { SongStore.atReset with bank1 := fiveLines } (clock .playing t t 0) following Results.atReset with
    lyric := q }

/-- The sequencer after a waiting advance to `t` is taken. -/
def stepAt (t : Nat) (window : List Nat) (cursor : Nat) (scroll : Option Scroll) (countdown : Option Countdown)
    (search : Nat) : Sequencer :=
  (after .lyricStep (singing t (sequencer window cursor scroll countdown search [⟨.step, t⟩]))).lyric

/-- Section 5.10 at 1500, 2000 and 4000: an entry, a countdown begun, a countdown ended. -/
theorem test_lyric_step_entry_and_countdown :
    stepAt 1500 [] 0 none none 0 = sequencer [0] 1 none none 0 [] ∧
    stepAt 2000 [0] 1 none none 0 = sequencer [0] 1 none (some ⟨0, 500⟩) 1 [] ∧
    stepAt 4000 [0, 1] 2 none (some ⟨0, 500⟩) 1 = sequencer [0, 1] 2 none none 4 [] := by decide +kernel

/-- Section 5.10 at 4900, 5900 and 6300: a line waits, a normal exit, a scroll ended. -/
theorem test_lyric_step_exit :
    stepAt 4900 [0, 1] 2 none none 4 = sequencer [0, 1] 2 none none 4 [] ∧
    stepAt 5900 [0, 1] 2 none none 4 = sequencer [1, 2] 3 (some ⟨0, 5900⟩) none 4 [] ∧
    stepAt 6300 [1, 2] 3 (some ⟨0, 5900⟩) none 4 = sequencer [1, 2] 3 none none 4 [] := by decide +kernel

/-- R100: a line that has begun forces the oldest out while a scroll is in flight. -/
theorem test_lyric_forced_exit :
    (stepAt 7400 [0, 1] 2 (some ⟨0, 7300⟩) none 4).forced = 1 ∧ (stepAt 7400 [0, 1] 2 (some ⟨0, 7300⟩) none 4).window = [1, 2] := by
  decide +kernel

/-- R105, R106: a rebuild at 9000 begins with line 2, which is held to 9300. -/
theorem test_lyric_rebuild :
    (after .lyricRebuild (singing 9000 (sequencer [0] 1 (some ⟨0, 0⟩) none 0 [⟨.rewind, 9000⟩]))).lyric =
      sequencer [2, 3] 4 none none 4 [] := by decide +kernel

theorem test_lyric_new_song_and_drop :
    (after .lyricNewSong (singing 0 (sequencer [1, 2] 3 none none 4 []))).lyric = Sequencer.atReset ∧
    (after .lyricDropSong (singing 0 (sequencer [1, 2] 3 (some ⟨0, 0⟩) none 4 []))).lyric = sequencer [] 3 none none 4 [] := by
  decide +kernel

/-- Section 5.10: the scene at 6200 (0x1838). -/
theorem test_scene :
    (after (.readScene [] (checkOf 9#8 [])) (singing 6200 (sequencer [1, 2] 3 (some ⟨0, 5900⟩) none 4 []))).port.lastAnswer =
      ⟨.ok, [1#8, 21#8, 2#8, 0#8, 0x18#8, 0x38#8, 0#8, 0x75#8, 0x30#8, 2#8,
        1#8, 1#8, 1#8, 2#8, 0#8, 16#8, 1#8, 2#8, 2#8, 1#8, 0#8, 0#8, 0#8, 0#8, 0#8, 0#8, 0#8, 0#8, 0#8, 0#8, 0#8, 0#8, 0#8, 0#8,
        1#8, 0#8, 3#8, 3#8, 0#8, 176#8, 12#8, 0#8,
        0#8, 0#8, 0#8, 0#8, 0xFF#8, 0xFF#8, 0#8, 0#8, 0#8, 0#8, 0xFF#8, 0xFF#8]⟩ := by decide +kernel

/-! ### What meets the statements of chapter 5 -/

theorem witness_LyricStepFollowsPlayTime :
    (∀ q, (singing 1500 q).running = true) ∧ (sequencer [] 0 none none 0 [⟨.step, 1500⟩]).inbox = [⟨.step, 1500⟩] ∧
    (∀ t rest, (sequencer [] 0 none none 0 [⟨.jump, 0⟩]).inbox ≠ ⟨.step, t⟩ :: rest) :=
  ⟨fun _ => rfl, rfl, fun _ _ h => by cases h⟩

theorem witness_LyricRebuildMakesWindowAfresh :
    (∀ q, (singing 1500 q).running = true) ∧
    (∀ k ∈ [AdvanceKind.jump, .rewind], (sequencer [] 0 none none 0 [⟨k, 0⟩]).inbox = [⟨k, 0⟩] ∧ k ≠ .step) ∧
    ((sequencer [] 0 none none 0 []).inbox = [] ∧ (sequencer [] 0 none none 0 [⟨.step, 0⟩]).inbox = [⟨.step, 0⟩]) :=
  ⟨fun _ => rfl, by decide, by decide⟩

theorem witness_LyricNewSongAndDropSong : (singing 0 Sequencer.atReset).running = true := rfl

/-- Before the first syllable, at it, in the last millisecond and at the end; the second syllable begun and not the third. -/
theorem witness_LineStateAndWipe :
    wipeLine.syllables.head? = some ⟨0, 300, 3⟩ ∧ wipeLine.syllables.getLast? = some ⟨1000, 600, 4⟩ ∧
    (∀ k < 2, ∀ y ∈ wipeLine.syllables[k]?, ∀ z ∈ wipeLine.syllables[k + 1]?, y.offset + y.duration ≤ z.offset) ∧
    (∀ y ∈ wipeLine.syllables, 1 ≤ y.duration) ∧ wipeLine.endTime = wipeLine.start + 1000 + 600 ∧
    (59999 < wipeLine.start + 0 ∧ wipeLine.endTime ≤ 61600 ∧ wipeLine.start + 0 ≤ 60000 ∧ 61599 < wipeLine.endTime) ∧
    (wipeLine.syllables[1]? = some ⟨300, 500, 4⟩ ∧ wipeLine.start + 300 ≤ 60999 ∧
      ∀ z ∈ wipeLine.syllables[2]?, 60999 < wipeLine.start + z.offset) := by decide

/-! ## Chapter 6: the worked sequences of sections 6.3 and 6.4 -/

/-- Microphone A's gate after a conversion with the default thresholds. -/
def gateAfter (m : MicState) (value : Nat) : Bool × Nat × Nat :=
  let s := after (.conversionCompletion (BitVec.ofNat 10 value))
    { queued [] with front := { FrontEnd.atReset with conversion := some .a, micA := m } }
  (s.front.micA.gateOpen, s.front.micA.openRun, s.front.micA.closeRun)

/-- A closed gate, and an open one, with these runs. -/
def closedGate (openRun : Nat) : MicState := { MicState.closed with openRun := openRun }
def openGate (closeRun : Nat) : MicState := { MicState.closed with gateOpen := true, closeRun := closeRun }

/-- Section 6.3 at 0, 2, 6, 12, 14, 16 and 20, and the fifth value in a row below the close threshold. -/
theorem test_gate :
    gateAfter (closedGate 0) 40 = (false, 0, 0) ∧ gateAfter (closedGate 0) 100 = (false, 1, 0) ∧
    gateAfter (closedGate 2) 90 = (false, 0, 0) ∧ gateAfter (closedGate 2) 140 = (true, 0, 0) ∧
    gateAfter (openGate 0) 70 = (true, 0, 0) ∧ gateAfter (openGate 0) 60 = (true, 0, 1) ∧
    gateAfter (openGate 2) 80 = (true, 0, 0) ∧ gateAfter (openGate 4) 20 = (false, 0, 0) := by decide +kernel

/-- Microphone A with its gate open, its last edge stamped, and this previous interval. -/
def voiced (previous : Option Nat) : MicState :=
  { MicState.closed with gateOpen := true, lastEdge := true, previous := previous }

/-- Entry 21 in PLAYING with a note of target 57 open at microphone A, and this front end for it. -/
def listening (m : MicState) : State :=
  { ready (roomOf []) { SongStore.atReset with bank1 := song } (clock .playing 100 100 0)
      { following with micA := { following.micA with openNote := some ⟨0, 0, 1200, false, 57, 4545, 0, 0, 0⟩ } }
      Results.atReset with
    front := { FrontEnd.atReset with micA := m } }

/-- The previous interval after an edge, and the samples the open note has then. -/
def edgeAfter (previous : Option Nat) (counts : Nat) : Option Nat × Option Nat :=
  let s := after (.zeroCrossEdge .a counts) (listening (voiced previous))
  (s.front.micA.previous, s.grader.micA.openNote.map (·.samples))

/-- Section 6.4, edges 1 to 3, 5, 6, 7 and 9. -/
theorem test_edges :
    edgeAfter none 4550 = (some 4550, some 0) ∧ edgeAfter (some 4550) 4530 = (some 4530, some 1) ∧
    edgeAfter (some 4530) 180 = (some 4530, some 0) ∧ edgeAfter (some 4540) 2270 = (some 2270, some 0) ∧
    edgeAfter (some 2270) 2265 = (some 2265, some 1) ∧ edgeAfter (some 2265) 650 = (none, some 0) ∧
    edgeAfter (some 2268) 2262 = (some 2262, some 1) := by decide +kernel

/-- Section 6.4, edges 3 and 4: after the guard the counter runs on. -/
theorem test_guard_runs_on :
    (after (.zeroCrossEdge .a 180) (listening (voiced none))).front.micA.counter = 180 ∧
    (after (.zeroCrossEdge .a 4360) (listening { voiced none with counter := 180 })).front.micA.previous = some 4540 := by
  decide +kernel

/-- R136: the settle timer's expiry. -/
theorem test_settled :
    (after .settleTimerExpiry { queued [] with front := { FrontEnd.atReset with activity := .settling, settleTimer := some 0 } }).front
      = { FrontEnd.atReset with conversion := some .a } := by decide

/-! ### What meets the statements of chapter 6 -/

/-- Values at the thresholds 96 and 64 and one below, and runs before the last. -/
theorem witness_GatesAndScans :
    (queued []).running = true ∧ ((95#10).toNat < 96 ∧ 96 ≤ (96#10).toNat ∧ 64 ≤ (64#10).toNat ∧ (63#10).toNat < 64) ∧
    ((closedGate 1).openRun < 2 ∧ 2 ≤ (closedGate 2).openRun ∧ (openGate 3).closeRun < 4 ∧ 4 ≤ (openGate 4).closeRun) ∧
    (∀ c, ({ queued [] with front := { FrontEnd.atReset with conversion := c } } : State).front.conversion = c) ∧
    (∃ f : FrontEnd, f.activity = .settling ∧ f.settleTimer = some 0) ∧
    (∃ f : FrontEnd, f.activity = .settling ∧ f.settleTimer ≠ some 0) ∧ FrontEnd.atReset.activity ≠ .settling :=
  ⟨rfl, by decide, by decide, fun _ => rfl, ⟨{ FrontEnd.atReset with activity := .settling, settleTimer := some 0 }, rfl, rfl⟩,
    ⟨{ FrontEnd.atReset with activity := .settling, settleTimer := some 1 }, rfl, by decide⟩, by decide⟩

/-- Stamps at 399, 400, 799, 800, 16000 and 16001; intervals a sixteenth apart and more; a mic mode that scores A and not B. -/
theorem witness_EdgesAndIntervals :
    ((listening (voiced (some 1600))).running = true ∧ (listening (voiced (some 1600))).front.activity = .on ∧
      ((listening (voiced (some 1600))).front.mic .a).lastEdge = true ∧
      ((listening (voiced (some 1600))).front.mic .a).gateOpen = true ∧
      (∀ c ∈ [399, 400, 799, 800, 16000, 16001],
        min (((listening (voiced (some 1600))).front.mic .a).counter + c) 65535 = c)) ∧
    ((1700 - 1600) * 16 ≤ 1600 ∧ ¬(1701 - 1600) * 16 ≤ 1600) ∧
    ((listening (voiced none)).deck.state = .playing ∧ (entry 21).micMode = .soloA) ∧
    (((listening (voiced none)).front.mic .b).lastEdge = false) ∧
    (∃ m : MicState, m.lastEdge = true ∧ m.gateOpen = false) ∧ (∃ f : FrontEnd, f.activity ≠ .on) :=
  ⟨by decide +kernel, by decide, by decide, by decide, ⟨{ voiced none with gateOpen := false }, by decide⟩,
    { FrontEnd.atReset with activity := .off }, by decide⟩

/-! ## Chapter 7: the worked cases of sections 7.3, 7.4, 7.5 and 7.11 -/

/-- Section 7.4: the six samples against the target period 4545. -/
theorem test_ratios :
    [2265, 2262, 9100, 4460, 4400, 4740].map (ratioOf 4545) = [4082, 4077, 4100, 4019, 3965, 4271] ∧
    [4082, 4077, 4100, 4019, 3965, 4271].map gradeOf = [.exact, .exact, .exact, .close, .miss, .miss] ∧
    [4082, 4019, 3965, 4271].map leanOf = [.centre, .sharp, .sharp, .flat] := by decide +kernel

/-- Section 7.5 and section 7.11: notes judged one after another. -/
theorem test_judging :
    let judged (g : MicGrade) (duration exact close miss : Nat) (golden : Bool) : MicGrade :=
      g.judge ⟨0, 0, duration, golden, 57, 4545, exact, close, miss⟩
        (OpenNote.weight ⟨0, 0, duration, golden, 57, 4545, exact, close, miss⟩)
    let g := judged (judged (judged (judged following.micA 1200 30 10 8 false) 800 2 10 8 false) 500 3 0 0 false) 600 9 0 1 true
    (g.total, g.weight, g.judged, g.sung, g.onPitch) = (230000, 3700, 4, 3, 2) ∧ g.score = some 621 := by decide +kernel

/-- Section 7.11: the same song skipped 350 ms into its golden fourth note. -/
theorem test_skipped_score :
    let g : Grader := { following with micA := { following.micA with
      openNote := some ⟨3, 10000, 600, true, 57, 4545, 5, 0, 0⟩, cursor := 4, total := 122000, weight := 2500, judged := 3,
      sung := 2, onPitch := 1 } }
    (after .graderFinalScores { deckIn (clock .playing 10350 10350 0) with grader := g }).grader.report =
      some ⟨some 600, none, some 600, some ⟨4, 3, 2⟩, none, false⟩ := by decide +kernel

/-- Section 7.11: the entry scores of duets. -/
theorem test_duet_scores :
    entryScoreOf (some .part1, some .part2) (some 621) (some 588) = some 604 ∧
    entryScoreOf (some .part1, some .part2) (some 621) none = some 621 ∧
    entryScoreOf (some .part1, some .part2) (some 621) (some 0) = some 310 := by decide

/-- The three notes of the worked load. -/
def threeNotes : List NoteRecord :=
  [⟨4000, 600, 60, .part1, false⟩, ⟨4300, 400, 64, .part2, false⟩, ⟨4700, 900, 62, .both, true⟩]

/-- A duet of the three notes with key shift +2, and this grader with a waiting advance. -/
def duet (g : Grader) : State :=
  { ready (roomOf []) { SongStore.atReset with bank1 := { song with notes := threeNotes } }
      { clock .playing 4700 4700 0 with current := some { entry 21 with micMode := .duet, keyShift := 2 } } g
      Results.atReset with grader := g }

/-- Section 7.3: the new song sets both cursors, and at 4700 microphone B closes one note and opens the next. -/
theorem test_duet_cursors :
    let g := (after .graderNewSong (duet Grader.atReset)).grader
    (g.micA.cursor, g.micB.cursor) = (0, 1) ∧
    let h := (after .graderStep (duet { g with
      micA := { g.micA with cursor := 2 }
      micB := { g.micB with cursor := 2, openNote := some ⟨1, 4300, 400, false, 66, 2703, 5, 0, 0⟩ }
      inbox := [⟨.step, 4700⟩] })).grader
    h.micA.openNote = some ⟨2, 4700, 900, true, 64, 3034, 0, 0, 0⟩ ∧ h.micB.openNote = h.micA.openNote ∧
    (h.micA.cursor, h.micB.cursor, h.micB.judged, h.micB.weight) = (3, 3, 1, 400) := by decide +kernel

/-- Section 7.11: a rewind inside a note. -/
theorem test_rewind :
    let g := (after .graderRewind (duet { following with
      inbox := [⟨.rewind, 20300⟩]
      micA := { following.micA with cursor := 8, openNote := some ⟨7, 20000, 1500, false, 57, 4545, 12, 3, 0⟩ } })).grader
    g.invalid = true ∧ g.micA.openNote = none ∧ (g.micA.total, g.micA.weight, g.micA.cursor) = (138000, 1500, 8) := by
  decide +kernel

theorem test_song_ended_and_discard :
    (after .graderSongEnded (deckIn (starting 0))).grader.mode = .final ∧
    (after .graderSongEnded (deckIn (starting 0))).grader.report = none ∧
    (after .graderDiscard (deckIn (clock .playing 0 0 0))).grader = Grader.atReset := by decide +kernel

/-- R138: the table's middle A and its ends. -/
theorem test_period_table : [24, 57, 60, 69, 108].map periodOf = [30578, 4545, 3822, 2273, 239] := by decide

/-! ### What meets the statements of chapter 7 -/

theorem witness_PeriodTableIsRounded : 24 ≤ 24 ∧ 108 ≤ 108 := by decide

theorem witness_GraderTakesAdvances :
    (∀ g, (duet g).running = true) ∧ following.mode = .following ∧ Grader.atReset.mode ≠ .following ∧
    (∀ k ∈ [AdvanceKind.step, .jump], ({ following with inbox := [⟨k, 4700⟩] } : Grader).inbox = [⟨k, 4700⟩] ∧ k ≠ .rewind) ∧
    ({ following with inbox := [⟨.rewind, 0⟩] } : Grader).inbox = [⟨.rewind, 0⟩] ∧ following.inbox = [] :=
  ⟨fun _ => rfl, by decide⟩

theorem witness_GraderSongRequests :
    (duet following).running = true ∧ (∃ e, (duet following).deck.current = some e) ∧ (duet following).grader.mode = .following :=
  ⟨rfl, ⟨_, rfl⟩, rfl⟩

/-- The least and the greatest sample, and target periods from 676 to 21622. -/
theorem witness_SamplesAreFoldedAndGraded :
    following.mode = .following ∧ (800 ≤ 800 ∧ 16000 ≤ 16000) ∧ following.micA.openNote = none ∧
    (∃ g : Grader, g.mode = .following ∧ ∃ o, g.micA.openNote = some o ∧ 676 ≤ o.period ∧ o.period ≤ 21622) ∧
    (676 ≤ periodOf 90 ∧ periodOf 30 ≤ 21622) :=
  ⟨rfl, by decide, rfl, ⟨{ following with micA := { following.micA with
    openNote := some ⟨0, 0, 20, false, 90, 676, 0, 0, 0⟩ } }, rfl, _, rfl, by decide⟩, by decide⟩

/-! ## Chapter 8: the full board of section 8.7 -/

/-- A board record with this score and finish number. -/
def ranked (score finish : Nat) : BoardRecord := ⟨score, 100, 3, .panelA, .soloA, 1, finish⟩

/-- The full board, and 15 records in the history. -/
def fullBoard : Results :=
  { history := (List.range 15).map fun i => { ungradedRecord (entry (i + 1)) .stopped with finish := 15 - i }
    board := [ranked 812 3, ranked 790 7, ranked 790 11, ranked 745 2, ranked 700 9, ranked 688 14, ranked 650 5, ranked 640 12]
    counter := 15 }

/-- A record offered with this outcome, score and invalid flag. -/
def offered (outcome : SongOutcome) (score : Option Nat) (invalid : Bool) : HistoryRecord :=
  { ungradedRecord (entry 40) outcome with entryScore := score, invalid := invalid }

/-- The board after a record is added, by score and finish number. -/
def boardAfter (r : HistoryRecord) : List (Nat × Nat) := (fullBoard.add r).board.map fun b => (b.score, b.finish)

/-- Section 8.7, steps 1 to 4 and 6. -/
theorem test_full_board :
    boardAfter (offered .completed (some 790) false) =
      [(812, 3), (790, 7), (790, 11), (790, 16), (745, 2), (700, 9), (688, 14), (650, 5)] ∧
    (fullBoard.add (offered .completed (some 640) false)).board = fullBoard.board ∧
    (fullBoard.add (offered .skipped (some 900) false)).board = fullBoard.board ∧
    (fullBoard.add (offered .completed (some 720) true)).board = fullBoard.board ∧
    (fullBoard.add (offered .completed none false)).board = fullBoard.board := by decide +kernel

/-- Section 8.7, steps 1 and 2: the sixteenth record is held, and the seventeenth drops finish number 1. -/
theorem test_history_drop :
    let one := fullBoard.add (offered .completed (some 790) false)
    one.history.map (·.finish) = [16, 15, 14, 13, 12, 11, 10, 9, 8, 7, 6, 5, 4, 3, 2, 1] ∧
    ((one.add (offered .completed (some 650) false)).history.map (·.finish)).getLast? = some 2 := by decide +kernel

/-- Section 8.7, its end: NEW SESSION puts the counter at 0, ROOM CLEAR keeps it. -/
theorem test_new_session_and_room_clear :
    let s : State := { queued [entry 1] with results := fullBoard }
    (after (.newSession []) s).results = Results.atReset ∧ (after (.newSession []) s).desk.flags.boardChanged = true ∧
    (after (.roomClear []) s).results = { Results.atReset with counter := 15 } ∧ (after (.roomClear []) s).room.entries = [] := by
  decide +kernel

/-- R44, R171: the pages of a history of fifteen and of the board. -/
theorem test_results_reads :
    let s : State := { queued [] with results := fullBoard }
    (after (.peekPast .a [15#8]) s).panelA.shift.map (·.reply.payload) =
      some [15#8, 1#8, 15#8, 15#8, 0#8, 0#8, 115#8, 3#8, 1#8, 3#8, 0xFF#8, 0xFF#8, 0#8, 0#8, 1#8] ∧
    (after (.readHistory [0#8]) s).desk.reply.map (fun r => r.payload.take 3) = some [15#8, 4#8, 1#8] ∧
    (after (.readBoard []) s).desk.reply.map (fun r => r.payload.take 13) =
      some [8#8, 1#8, 0x03#8, 0x2C#8, 0#8, 0#8, 100#8, 3#8, 1#8, 1#8, 1#8, 0#8, 3#8] := by decide +kernel

/-! ## Chapter 9: the worked sequences of section 9.7 -/

/-- The port not selected, with its change count at 20. -/
def unselected : State :=
  { queued [] with port := { MediaPort.atReset true with state := .unselected, changeCount := 20, ackCount := 19 } }

/-- One LINE transaction: the fall of MSN makes the change count ready; its rise ends the transaction. -/
theorem test_select :
    (after .msnFall unselected).port.state = .command ∧ (after .msnFall unselected).port.firstByte = some 20#8 ∧
    (after .msnRise (after .msnFall unselected)).port = unselected.port := by decide

/-- One LINE transaction: MDO carries the change count 20 and then 0 while the command goes in, and is released before and
after. -/
theorem test_mdo_in_command :
    let s := after .msnFall unselected
    unselected.mdo = none ∧ s.mdo = some 20#8 ∧ (stepped s).mdo = some 0#8 ∧ (stepped (stepped s)).mdo = some 0#8 ∧
    (after .msnRise (stepped s)).mdo = none ∧ (after .msnRise (after .resetPin s)).port.firstByte = none := by decide

/-- R173, R174: the answer to ACK DIRECTIVE 20 goes out as OK, length 1, 20 and the check 235; TRAILING carries 0. -/
theorem test_mdo_in_answer_and_trailing :
    let s := after (.ackDirective [20#8] (checkOf 8#8 [20#8])) (stepped (after .msnFall unselected))
    let t := stepped (stepped (stepped (stepped s)))
    (s.mdo, (stepped s).mdo, (stepped (stepped s)).mdo) = (some 0#8, some 0#8, some 1#8) ∧
    (stepped (stepped (stepped s))).mdo = some 20#8 ∧ t.mdo = some 235#8 ∧ t.port.state = .answer ∧
    (stepped t).port.state = .trailing ∧ (stepped t).mdo = some 0#8 ∧ stepped (stepped t) = stepped t ∧
    after (.ackDirective [20#8] (checkOf 8#8 [20#8])) (stepped t) = stepped t := by decide +kernel

/-- The directive across a start, steps 6 and 8. -/
theorem test_ack_directive :
    let s := queued []
    let t : State := { s with port := { s.port with changeCount := 19, ackCount := 17 } }
    (after (.ackDirective [18#8] (checkOf 8#8 [18#8])) t).port.lastAnswer = ⟨.stale, [19#8]⟩ ∧
    (after (.ackDirective [19#8] (checkOf 8#8 [19#8])) t).matnAsserted = false ∧ t.matnAsserted = true := by decide

/-- The directive across a start, step 7: PLAY, 21, song 121, key 0. -/
theorem test_read_directive :
    (after (.readDirective [] (checkOf 7#8 [])) (deckIn (clock .playing 0 0 0))).port.lastAnswer =
      ⟨.ok, [0#8, 1#8, 21#8, 0#8, 0#8, 121#8, 0#8, 0#8, 0#8, 0#8, 0#8, 0#8]⟩ := by decide +kernel

/-- Before any command REPEAT ANSWER gives NOTHING; R176: a bad sum, an unknown kind. -/
theorem test_repeat_and_port_checks :
    (after (.repeatAnswer [] (checkOf 10#8 [])) (queued [])).port.lastAnswer = ⟨.nothing, []⟩ ∧
    (after (.readDirective [] 0#8) (queued [])).port.lastAnswer.code = .badField ∧
    (after (.mediaUnknownKind 11#8 [] (checkOf 11#8 [])) (queued [])).port.lastAnswer.code = .badKind := by decide

/-! ### What meets the statements of chapter 9 -/

/-- MSN high and low; the port in each state, at its first byte and later; a payload of 1281 bytes; a sum that is not 0; kinds 0 and 11; a wrong length of kind 1. -/
theorem witness_SelectAndPortChecksInOrder :
    (queued []).running = true ∧ unselected.running = true ∧ unselected.port.selectHigh = true ∧
    ((queued []).port.selectHigh = false ∧ (queued []).port.state = .command ∧ unselected.port.state ≠ .command) ∧
    (let s := stepped (after (.ackDirective [20#8] (checkOf 8#8 [20#8])) (after .msnFall unselected))
     (queued []).port.place = 0 ∧ (stepped (queued [])).port.state = .command ∧ (stepped (queued [])).port.place ≠ 0 ∧
     s.port.selectHigh = false ∧ s.port.state = .answer ∧
     (stepped (stepped (stepped (stepped s)))).port.state = .trailing ∧ (MediaPort.atReset false).state = .waitHigh) ∧
    (1280 < (List.replicate 1281 0#8).length ∧ (List.replicate 1280 0#8).length ≤ 1280) ∧
    ¬SumsToZero 7#8 [] 0#8 ∧ SumsToZero 0#8 [] (checkOf 0#8 []) ∧ SumsToZero 11#8 [] (checkOf 11#8 []) ∧
    SumsToZero 1#8 [0#8] (checkOf 1#8 [0#8]) ∧ ¬(1 ≤ (0#8).toNat) ∧ ¬((11#8).toNat ≤ 10) ∧
    [17, 0, 11, 1, 2, 5, 0, 1, 0, 0][(1#8).toNat - 1]? ≠ some [0#8].length :=
  ⟨rfl, rfl, rfl, by decide, by decide +kernel, by simp only [List.length_replicate]; decide, by unfold SumsToZero; decide, rfl, rfl, rfl,
    by decide, by decide, by decide⟩

theorem witness_DirectiveReadAckAndRepeat :
    (queued []).AtCheck ∧ SumsToZero 7#8 [] (checkOf 7#8 []) ∧ SumsToZero 8#8 [0#8] (checkOf 8#8 [0#8]) ∧
    (byteAt [0#8] 0).toNat = (queued []).port.changeCount ∧ SumsToZero 8#8 [255#8] (checkOf 8#8 [255#8]) ∧
    (byteAt [255#8] 0).toNat ≠ (queued []).port.changeCount ∧ SumsToZero 10#8 [] (checkOf 10#8 []) :=
  ⟨ready_at_check .., rfl, rfl, rfl, rfl, by decide, rfl⟩

/-- In IDLE, and while the song plays. -/
theorem witness_SceneIsBlankOrSong :
    ((queued []).AtCheck ∧ (queued []).deck.state = .idle) ∧
    ((deckIn (clock .playing 0 0 0)).AtCheck ∧ (deckIn (clock .playing 0 0 0)).desk.standby = false ∧
      (deckIn (clock .playing 0 0 0)).deck.state ≠ .idle ∧ (deckIn (clock .playing 0 0 0)).deck.reached = true ∧
      ∃ h, (deckIn (clock .playing 0 0 0)).store.playing.header = some h) ∧
    SumsToZero 9#8 [] (checkOf 9#8 []) :=
  ⟨⟨ready_at_check .., rfl⟩, ⟨ready_at_check .., rfl, by decide, rfl, _, rfl⟩, rfl⟩

/-! ## Chapter 10: the worked sequences of section 10.8 -/

/-- A command lost to the timeout, steps 1 and 2. -/
theorem test_credits_add :
    let s := after (.creditsAdd [0#8, 5#8]) (queued [])
    s.room.credits = 7 ∧ deskRecord s.desk.reply = [0#8, 0x45#8, 3#8, 0#8, 0#8, 7#8] ∧ s.datnAsserted = false := by decide +kernel

/-- A command lost to the timeout, step 4: the reply record is kept. -/
theorem test_bus_timeout :
    let s : State := { queued [] with desk := { (queued []).desk with busTimer := some 0, reply := some ⟨.ok, 0x45#8, []⟩ } }
    let t := after .deskBusTimeout s
    t.desk.bus = .idle ∧ t.desk.flags.deskTimeout = true ∧ t.desk.reply = s.desk.reply ∧ t.datnAsserted = true := by decide

/-- R191: a falling edge of DSCL starts the count again; 20 ms after the last one the timeout is due, and stays so. -/
theorem test_bus_timeout_restarts :
    let s (left : Nat) : State := { queued [] with desk := { (queued []).desk with busTimer := some left } }
    (stepped (s 1)).desk.busTimer = some 20 ∧ (after .millisecondTick (s 1)).desk.busTimer = some 0 ∧
    (stepped (s 0)).desk.busTimer = some 0 ∧ after .deskBusTimeout (stepped (s 1)) = stepped (s 1) := by decide

/-- A command lost to the timeout, steps 7 and 8. -/
theorem test_read_and_ack_events :
    let s : State := { queued [] with desk := { (queued []).desk with flags := { EventFlags.clear with deskTimeout := true } } }
    (after (.readEvents []) s).desk.reply = some ⟨.ok, 0x41#8, [0#8, 0x80#8, 0x03#8, 0xFF#8]⟩ ∧
    (after (.ackEvents [0#8, 0x80#8]) s).desk.reply = some ⟨.ok, 0x42#8, [0#8, 0#8]⟩ ∧
    (after (.ackEvents [0#8, 0x7F#8]) s).datnAsserted = true ∧ (after (.eventMask [0#8, 0x7F#8]) s).datnAsserted = false := by
  decide

/-- R187: the address byte names the unit and the direction. -/
theorem test_start_condition :
    (after (.deskStartCondition 0x70#8) State.reset).desk.bus = .writing ∧
    (after (.deskStartCondition 0x71#8) State.reset).desk.bus = .reading ∧
    (after (.deskStartCondition 0x72#8) (queued [])).desk.bus = .idle ∧ (after .deskStopCondition (queued [])).desk.bus = .idle := by
  decide

/-- R195: open 96 lowered to 50 takes the close threshold with it; R45: a baud is rounded and pending; R22: the quota. -/
theorem test_config_set :
    (after (.configSet [6#8, 0#8, 50#8]) (queued [])).desk.reply =
      some ⟨.ok, 0x49#8, [6#8, 0#8, 50#8, 0#8, 50#8, 0#8, 50#8]⟩ ∧
    (after (.configSet [8#8, 0x96#8, 0#8]) (queued [])).panelB.pendingRate = some .r38400 ∧
    (after (.configSet [11#8, 0#8, 33#8]) (queued [])).room.quota = 32 ∧
    (after (.configSet [12#8, 0#8, 0#8]) (queued [])).desk.reply = some ⟨.badField, 0x49#8, []⟩ := by decide +kernel

/-- R196, R197: the configuration and the status after reset. -/
theorem test_config_read_and_status :
    (after (.configRead []) (queued [])).desk.reply.map (·.payload) = some [0#8, 2#8, 0x09#8, 0xC4#8, 0x01#8, 0x2C#8, 0x01#8,
      0x90#8, 0x0F#8, 0xA0#8, 0#8, 96#8, 0#8, 64#8, 0x4B#8, 0#8, 0#8, 1#8, 0#8, 1#8, 0#8, 2#8] ∧
    (after (.status []) (queued [])).desk.reply.map (·.payload) =
      some [1#8, 0#8, 0#8, 0#8, 0#8, 2#8, 0#8, 2#8, 0#8, 0#8, 0#8, 0#8] := by decide +kernel

/-- R31, R203: the counters are read, and cleared when asked. -/
theorem test_line_counters :
    let s := lineB { watching .outside with counters := ⟨1, 2, 3, 4, 5, 6, 7, 8⟩ }
    (after (.readLineCounters [1#8]) s).desk.reply.map (fun r => r.payload.drop 8) =
      some [1#8, 2#8, 3#8, 4#8, 5#8, 6#8, 7#8, 8#8] ∧
    (after (.readLineCounters [1#8]) s).panelB.counters = LineCounters.zero ∧ (after (.readLineCounters [0#8]) s).panelB = s.panelB := by
  decide +kernel

/-- R188, R189: an unknown kind, a wrong length, and a write of 17 bytes. -/
theorem test_write_checks :
    (after (.deskUnknownKind 0x59#8 []) (queued [])).desk.reply = some ⟨.badKind, 0x59#8, []⟩ ∧
    (after (.lock [1#8]) (queued [])).desk.reply = some ⟨.badField, 0x47#8, []⟩ ∧
    (after (.deskUnknownKind 0x59#8 (List.replicate 16 0#8)) (queued [])).desk.reply = some ⟨.badField, 0x59#8, []⟩ := by
  decide +kernel

/-- A controller asleep with entry 14 at the head, READY. -/
def asleep : State :=
  let s := ready (roomOf [entry 14]) { asked [entry 14] with state := .ready } Deck.atReset Grader.atReset Results.atReset
  { s with desk := { s.desk with standby := true }, front := { FrontEnd.atReset with activity := .off } }

/-- A wake and a start, steps 1 to 3. -/
theorem test_wake_and_start :
    let s := after (.peekNow .a []) asleep
    s.desk.standby = false ∧ s.desk.flags.woke = true ∧ s.front.settleTimer = some 20 ∧ s.deck.state = .starting ∧
    s.panelA.shift.map (fun x => x.reply.payload.take 2) = some [1#8, 14#8] ∧
    (after (.wake []) s).desk.reply = some ⟨.ok, 0x57#8, []⟩ ∧ (after (.standby []) s).desk.reply = some ⟨.busy, 0x56#8, []⟩ := by
  decide +kernel

theorem test_standby :
    (after (.standby []) (queued [])).desk.standby = true ∧ (after (.standby []) (queued [])).front.activity = .off ∧
    (after (.wake []) asleep).deck.state = .starting := by decide +kernel

/-! ### What meets the statements of chapter 10 -/

/-- A wake and a start, step 1: the frame that wakes the controller finds the head ready to start. -/
theorem witness_FrameChecksInOrder_wake :
    asleep.running = true ∧ (asleep.panel .a).slot = .empty ∧ asleep.desk.standby = true ∧
    asleep.desk.settings.wakeOnPanel = true ∧ asleep.Posted := ⟨rfl, rfl, rfl, rfl, rfl⟩

theorem witness_DeskTransactions :
    State.reset.running = true ∧ ((0x70#8).toNat / 2 = State.reset.desk.busAddress ∧ (0x72#8).toNat / 2 ≠ State.reset.desk.busAddress)
    ∧ (∃ u : DeskUnit, u.bus ≠ .idle ∧ u.busTimer = some 0) ∧ ((queued []).desk.busTimer ≠ some 0) ∧
    State.reset.desk.bus = .idle :=
  ⟨rfl, by decide, ⟨{ (queued []).desk with busTimer := some 0 }, by decide⟩, by decide, rfl⟩

/-- Writes of 16 and 17 bytes; kinds 0x3F and 0x59; wrong lengths at kinds 0x40 and 0x58. -/
theorem witness_WriteChecksInOrder :
    ((queued []).running = true ∧ (queued []).desk.bus = .writing) ∧ State.reset.desk.bus ≠ .writing ∧
    (16 < (List.replicate 16 0#8).length + 1 ∧ (List.replicate 15 0#8).length + 1 ≤ 16) ∧
    (¬(0x40 ≤ (0x3F#8).toNat) ∧ ¬((0x59#8).toNat ≤ 0x58)) ∧
    (let lengths := [0, 0, 2, 2, 2, 2, 1, 0, 0, 3, 0, 6, 1, 2, 1, 0, 1, 1, 0, 1, 0, 0, 0, 0, 0]
     lengths[(0x40#8).toNat - 0x40]? ≠ some [0#8].length ∧ lengths[(0x58#8).toNat - 0x40]? ≠ some [0#8].length) := by decide

theorem witness_DeskReads : (queued []).AtWrite ∧ [0#8].length = 1 ∧ [1#8].length = 1 := ⟨ready_at_write .., by decide⟩

theorem witness_EventFlagsAckedAndMasked : (queued []).AtWrite ∧ [0xFF#8, 0xFF#8].length = 2 := ⟨ready_at_write .., by decide⟩

/-- Every item, and the ones on each side that are none. -/
theorem witness_ConfigSetClamps :
    (queued []).AtWrite ∧ (∀ i ∈ [0#8, 1#8, 2#8, 3#8, 4#8, 5#8, 6#8, 7#8, 8#8, 9#8, 10#8, 11#8, 12#8, 255#8],
      [i, 0#8, 0#8].length = 3) ∧
    ((byteAt [0#8, 0#8, 0#8] 0).toNat = 0 ∧ 11 < (byteAt [12#8, 0#8, 0#8] 0).toNat) :=
  ⟨ready_at_write .., by decide, by decide⟩

theorem witness_NewSessionAndRoomClear :
    ((queued [entry 1]).AtWrite ∧ (queued [entry 1]).deck.state = .idle ∧ (queued [entry 1]).StagingRule ∧
      (queued [entry 1]).Posted) ∧
    (∀ d ∈ [stoppingDeck true 0, clock .playing 0 0 0], (deckIn d).AtWrite ∧ (deckIn d).StagingRule ∧ (deckIn d).Posted) ∧
    (stoppingDeck true 0).state = .stopping ∧ (clock .playing 0 0 0).current = some (entry 21) :=
  ⟨⟨ready_at_write .., rfl, queued_staging _, ready_posted ..⟩,
    fun _ _ => ⟨ready_at_write .., ⟨rfl, by simp [deckIn, ready, State.setPort, SongStore.atReset, roomOf], rfl⟩,
      ready_posted ..⟩, rfl, rfl⟩

theorem witness_StandbyWakeAndDeskReset :
    (asleep.AtWrite ∧ asleep.desk.standby = true ∧ asleep.Posted) ∧
    ((queued []).AtWrite ∧ (queued []).desk.standby = false ∧ (queued []).deck.state = .idle) ∧
    ((deckIn (starting 0)).AtWrite ∧ (deckIn (starting 0)).desk.standby = false ∧ (deckIn (starting 0)).deck.state ≠ .idle) :=
  ⟨⟨⟨rfl, rfl⟩, rfl, rfl⟩, ⟨ready_at_write .., rfl, rfl⟩, ready_at_write .., rfl, by decide⟩

/-! ## Reset and the controller as a whole -/

/-- R198: a power-on, a low supply during its hold, the supply's recovery, and the leaving of reset. -/
theorem test_power_on_then_low_supply :
    let s := after .lowSupply (after .powerOn State.reset)
    (s.resetUnit.cause, s.resetUnit.supplyValid) = (.powerOn, false) ∧ after (.leavingReset 3#2) s = s ∧
    (after (.leavingReset 3#2) (after .supplyRecovery s)).desk.busAddress = 0x3B := by decide +kernel

/-- R198: with RSTN held, a low supply in a hold that POWER_ON began leaves POWER_ON recorded, and one after that hold has run
out is recorded. -/
theorem test_hold_runs_out_under_held_pin :
    let s := after .powerOn (after .resetPin State.reset)
    let t := after .millisecondTick (s.setResetUnit { s.resetUnit with holdTimer := some 1 })
    s.resetUnit.holdTimer = some 65 ∧ (after .millisecondTick s).resetUnit.holdTimer = some 64 ∧
    (after .lowSupply s).resetUnit.cause = .powerOn ∧ t.resetUnit.inReset = true ∧ t.resetUnit.pinHeld = true ∧
    (after .lowSupply t).resetUnit.cause = .lowSupply ∧ after .millisecondTick t = t := by decide

/-- R198, R199: a desk reset empties the room and is recorded. -/
theorem test_desk_reset :
    let s := after (.leavingReset 0#2) (after (.deskReset []) (queued [entry 1]))
    s.resetUnit.cause = .deskReset ∧ s.room = RoomQueue.atReset ∧ s.desk.flags.resetSeen = true ∧ s.desk.reply = none := by
  decide +kernel

/-- R198: the reset pin holds the controller until it is released; in reset no command is taken. -/
theorem test_reset_pin :
    let s := after .resetPin State.reset
    after (.leavingReset 0#2) s = s ∧ after (.lock []) s = s ∧ (after .rstnRelease s).resetUnit.pinHeld = false ∧
    (after (.leavingReset 0#2) (after .rstnRelease s)).resetUnit.cause = .resetPin ∧
    (after .supplyRecovery State.reset) = State.reset := by decide +kernel

/-- Commands are taken first in, first out. -/
theorem test_step_takes_front :
    step ((queued []).setPending [.lock [], .creditsUnlimited [1#8]]) =
      exec (.lock []) ((queued []).setPending [.creditsUnlimited [1#8]]) ∧
    step State.reset = .next State.reset := ⟨rfl, rfl⟩

/-- No row of the table gives bits, so no word is put in the queue. -/
theorem test_no_table_words : decodeTableWord 8 0x10 = none ∧ State.reset.withFetchWord 8 0x10 = State.reset := by decide

theorem witness_StepRunsFrontCommand :
    ((queued []).setPending [.lock []]).pending = .lock [] :: [] ∧ (queued []).pending = [] ∧ (queued []).running = true ∧
    (after .resetPin State.reset).pending = [] ∧ (after .resetPin State.reset).running = false := ⟨rfl, rfl, rfl, rfl, rfl⟩

/-- A hold that POWER_ON began and other resets; in reset without supply, with the pin held, and out of reset. -/
theorem witness_ResetConditions :
    ((after .powerOn State.reset).resetUnit.inReset = true ∧ (after .powerOn State.reset).resetUnit.startupHold = true ∧
      (after .powerOn State.reset).resetUnit.holdFromPowerOn = true) ∧
    (after .resetPin State.reset).resetUnit.startupHold = false ∧
    ((after .lowSupply State.reset).resetUnit.inReset = true ∧ (after .lowSupply State.reset).resetUnit.supplyValid = false) ∧
    State.reset.resetUnit.inReset = false ∧ (after .resetPin State.reset).resetUnit.pinHeld = true ∧
    ((after .powerOn State.reset).resetUnit.holdTimer = some 65 ∧ 1 < 65) ∧
    ((after .powerOn State.reset).setResetUnit
      { (after .powerOn State.reset).resetUnit with holdTimer := some 1 }).resetUnit.holdTimer = some 1 ∧
    (after .resetPin State.reset).resetUnit.holdTimer = none := by decide

theorem witness_LeavingResetGivesResetValues :
    (after .powerOn State.reset).resetUnit.inReset = true ∧ (after .powerOn State.reset).resetUnit.pinHeld = false ∧
    (after .powerOn State.reset).resetUnit.supplyValid = true := by decide

theorem witness_InResetNothingIsTaken :
    (after .resetPin State.reset).running = false ∧ Instr.lock [] ≠ .powerOn ∧ Instr.lock [] ≠ .lowSupply ∧
    Instr.lock [] ≠ .resetPin ∧ Instr.lock [] ≠ .supplyRecovery ∧ Instr.lock [] ≠ .rstnRelease ∧
    Instr.lock [] ≠ .millisecondTick ∧ ∀ pins, Instr.lock [] ≠ .leavingReset pins :=
  ⟨by decide, by decide, by decide, by decide, by decide, by decide, by decide, fun _ h => Instr.noConfusion h⟩

theorem witness_FlagsClearedByAckOrReset :
    (Instr.ackEvents [0#8, 1#8]).wellFormed = true ∧
    (∃ t, exec (.ackEvents [0#8, 1#8]) State.reset = .next t) ∧ State.reset.desk.flags.has .resetSeen = true :=
  ⟨by decide, ⟨_, rfl⟩, by decide⟩

/-- The first RUN mark of entry 21. -/
theorem witness_CreditsFallOnlyWhere :
    let c := Instr.timeMarkRun (markBytes 120 1#8) (checkOf 6#8 (markBytes 120 1#8))
    c.wellFormed = true ∧ (∃ t, exec c (deckIn (starting 2360)) = .next t ∧
      t.room.credits < (deckIn (starting 2360)).room.credits) ∧ (deckIn (starting 2360)).room.credits ≤ 999 :=
  ⟨by decide, ⟨_, rfl, by decide +kernel⟩, by decide⟩

theorem witness_HistoryGrowsByOneOrIsEmptied : ∃ t, exec .startTimerExpiry (deckIn (starting 0)) = .next t := ⟨_, rfl⟩

/-- An unlocked room with a LOCK waiting. -/
def waiting : State := (queued []).setPending [.lock []]

theorem waiting_ids : waiting.IdRule := by constructor <;> simp [waiting, carriedIds, queued, ready, State.setPort, State.setPending,
  roomOf, Deck.atReset, Results.atReset]

theorem waiting_staging : waiting.StagingRule := ⟨rfl, by decide, rfl⟩

theorem idle_deck_rule : Deck.atReset.Rule := by constructor <;> simp [Deck.atReset, Deck.TableRow]

theorem reset_line_rule : (PanelUnit.atReset true).Rule := by
  constructor <;> simp [PanelUnit.atReset, Assembler.Rule, Assembler.inProgress, LineCounters.zero]

theorem witness_StepKeepsSound : waiting.Sound ∧ step waiting = exec (.lock []) (queued []) := by
  have hm : MicState.closed.Rule := by constructor <;> simp [MicState.closed]
  have hg : MicGrade.unscored.Rule := by constructor <;> simp [MicGrade.unscored, LiveIndicator.off]
  have hl : LyricSettings.default.Rule := by constructor <;> simp [LyricSettings.default]
  refine ⟨⟨?_, reset_line_rule, reset_line_rule, idle_deck_rule, ?_, ?_, ?_, reset_results_rule, ?_, hl, waiting_staging, rfl,
    waiting_ids, ⟨⟨fun h => Bool.noConfusion h, fun h => Activity.noConfusion h⟩, fun _ => rfl⟩⟩, rfl⟩
  · show (roomOf []).Rule
    constructor <;> simp [roomOf]
  · show Sequencer.atReset.Rule
    constructor <;> simp [Sequencer.atReset, LyricSettings.default]
  · show FrontEnd.atReset.Rule
    constructor <;> simp [FrontEnd.atReset, hm]
  · show Grader.atReset.Rule
    constructor <;> simp [Grader.atReset, hg]
  · show Settings.default.Rule
    constructor <;> simp [Settings.default, hl]

theorem witness_StepKeepsIdsStagingAndDirective :
    waiting.room.entries.length ≤ 32 ∧ waiting.results.history.length ≤ 16 ∧ waiting.deck.Rule ∧ waiting.StagingRule ∧
    waiting.IdRule ∧ waiting.Posted ∧ ∃ t, step waiting = .next t :=
  ⟨by decide, by decide, idle_deck_rule, waiting_staging, waiting_ids, rfl, _, rfl⟩

end Sys2Proof.Tests
end

section
/-! # The entry-id allocator (R4) -/

namespace Sys2Proof.Machine

open State

/-- The `d`th id after `last` on the circle 1 to 250, counted from 0. -/
def circleId (last d : Nat) : Nat := (last + d) % 250 + 1

theorem nextIdAfter_eq {last : Nat} (h : last ≤ 250) : nextIdAfter last = circleId last 0 := by
  unfold nextIdAfter circleId
  split <;> simp_all <;> omega

theorem circleId_le (last d : Nat) : circleId last d ≤ 250 := by
  unfold circleId; omega

theorem circleId_circleId (last d : Nat) : circleId (circleId last 0) d = circleId last (d + 1) := by
  unfold circleId; omega

/-- Every id from 1 to 250 is met within one round of the circle. -/
theorem exists_circleId_eq (last : Nat) {i : Nat} (h1 : 1 ≤ i) (h2 : i ≤ 250) : ∃ d < 250, circleId last d = i := by
  refine ⟨(i + 249 - last % 250) % 250, by omega, ?_⟩
  unfold circleId
  omega

/-- The search finds the first free id of the candidates it tries, or all of them are in use. -/
theorem findFreeId_spec (used : List Nat) : ∀ (tries last : Nat), last ≤ 250 →
    (∃ d < tries, findFreeId used tries last = some (circleId last d) ∧ circleId last d ∉ used ∧
      ∀ j < d, circleId last j ∈ used) ∨
    (∀ j < tries, circleId last j ∈ used) := by
  intro tries
  induction tries with
  | zero => intro last _; exact .inr (by simp)
  | succ tries ih =>
    intro last hlast
    have hfind : findFreeId used (tries + 1) last =
        if circleId last 0 ∈ used then findFreeId used tries (circleId last 0) else some (circleId last 0) := by
      simp [findFreeId, nextIdAfter_eq hlast]
    by_cases hused : circleId last 0 ∈ used
    · have hcons : ∀ d, (∀ j < d, circleId (circleId last 0) j ∈ used) → ∀ j < d + 1, circleId last j ∈ used := by
        intro d hd j hj
        cases j with
        | zero => exact hused
        | succ j => rw [← circleId_circleId]; exact hd j (by omega)
      obtain ⟨d, hd, hf, hfree, hbefore⟩ | hall := ih _ (circleId_le last 0)
      · refine .inl ⟨d + 1, by omega, ?_, ?_, hcons d hbefore⟩
        · rw [hfind, if_pos hused, hf, circleId_circleId]
        · rwa [← circleId_circleId]
      · exact .inr (hcons tries hall)
    · exact .inl ⟨0, by omega, by rw [hfind, if_neg hused], hused, by simp⟩

/-- Where some id is free, the id issued is the first free one after the last one issued (R4). -/
theorem issueId_spec {used : List Nat} {last : Nat} (hlast : last ≤ 250) (hfree : ∃ i, 1 ≤ i ∧ i ≤ 250 ∧ i ∉ used) :
    ∃ d < 250, issueId used last = circleId last d ∧ circleId last d ∉ used ∧ ∀ j < d, circleId last j ∈ used := by
  obtain ⟨d, hd, hf, hspec⟩ | hall := findFreeId_spec used 250 last hlast
  · exact ⟨d, hd, by simp [issueId, hf], hspec⟩
  · obtain ⟨i, h1, h2, hi⟩ := hfree
    obtain ⟨d, hd, rfl⟩ := exists_circleId_eq last h1 h2
    exact absurd (hall d hd) hi

/-- Fewer than 250 ids in use leave one free. -/
theorem exists_free_id {used : List Nat} (h : used.length < 250) : ∃ i, 1 ≤ i ∧ i ≤ 250 ∧ i ∉ used := by
  have hcard : used.toFinset.card < (Finset.Icc 1 250).card := by
    have := used.toFinset_card_le
    simp only [Nat.card_Icc]
    omega
  obtain ⟨i, hi, hu⟩ := Finset.exists_mem_notMem_of_card_lt_card hcard
  rw [Finset.mem_Icc] at hi
  exact ⟨i, hi.1, hi.2, by simpa using hu⟩

theorem idsInUse_length (s : State) : s.idsInUse.length ≤ s.room.entries.length + s.results.history.length + 2 := by
  have h1 : s.deck.current.toList.length ≤ 1 := by cases s.deck.current <;> simp
  have h2 : s.store.owner.toList.length ≤ 1 := by cases s.store.owner <;> simp
  simp only [State.idsInUse, List.length_append, List.length_map]
  omega

/-- A submission's id is none of those in use, and is in range (R4). -/
theorem issueId_fresh {s : State} (hlast : s.room.lastId ≤ 250) (hroom : s.room.entries.length ≤ 32)
    (hhist : s.results.history.length ≤ 16) :
    issueId s.idsInUse s.room.lastId ∉ s.idsInUse ∧ 1 ≤ issueId s.idsInUse s.room.lastId ∧
      issueId s.idsInUse s.room.lastId ≤ 250 := by
  have hlen := idsInUse_length s
  obtain ⟨d, -, hid, hfree, -⟩ := issueId_spec hlast (exists_free_id (used := s.idsInUse) (by omega))
  rw [hid]
  exact ⟨hfree, by unfold circleId; omega, circleId_le _ _⟩

/-- Settles O1: the search along the circle, and a count of the ids in use. -/
theorem issuedIdIsFirstFreeAfterLast : Obligations.IssuedIdIsFirstFreeAfterLast :=
  ⟨fun _ _ hlast hfree => issueId_spec hlast hfree, fun _ hlast hroom hhist => issueId_fresh hlast hroom hhist⟩

end Sys2Proof.Machine
end

section
/-! # The deck's operations keep the table of section 4.1 -/

namespace Sys2Proof.Machine.Deck

variable {d : Deck}

/-- Play time is in range (R75). -/
theorem Rule.playTime_le (h : d.Rule) : d.playTime ≤ 3599999 := by
  have := h.floor
  unfold playTime
  split
  · exact Nat.min_le_right _ _
  · exact this

theorem atReset_rule : Deck.atReset.Rule := by
  constructor <;> simp [Deck.atReset, TableRow]

/-- An IDLE deck holds nothing (section 4.1). -/
theorem Rule.eq_atReset (h : d.Rule) (hs : d.state = .idle) : d = Deck.atReset := by
  have hrow := h.row
  simpa only [TableRow, hs] using hrow

/-- While an entry is being played, the deck holds it with the stop id (R67). -/
theorem Rule.holds (h : d.Rule) (hi : d.state ≠ .idle) (hs : d.state ≠ .stopping) : d.Holds d.stopId := by
  have hrow := h.row
  unfold TableRow at hrow
  cases hd : d.state <;> simp only [hd] at hrow hi hs <;> simp_all

theorem Rule.reached_eq (h : d.Rule) (hs : d.state = .playing ∨ d.state = .paused ∨ d.state = .stalled) :
    d.reached = true := by
  have hrow := h.row
  obtain hs | hs | hs := hs <;> simp only [TableRow, hs] at hrow <;> exact hrow.2.1

theorem startWith_rule (e : Entry) : (d.startWith e).Rule := by
  constructor <;> simp [startWith, disarm, TableRow, Holds]

theorem Rule.firstMark (h : d.Rule) (hs : d.state = .starting) {m : Nat} (hm : m ≤ 3599999) : (d.firstMark m).Rule := by
  have hh := h.holds (by simp [hs]) (by simp [hs])
  constructor <;> simp [Deck.firstMark, disarm, TableRow, hm]
  exact hh

theorem Rule.markFloor_le (h : d.Rule) {m : Nat} (hm : m ≤ 3599999) : d.markFloor m ≤ 3599999 := by
  unfold markFloor
  split
  · exact h.playTime_le
  · exact hm

theorem Rule.runMark (h : d.Rule) (hs : d.state = .playing ∨ d.state = .stalled) {m : Nat} (hm : m ≤ 3599999) :
    (d.runMark m).Rule := by
  have hh : d.Holds d.stopId := by obtain hs | hs := hs <;> exact h.holds (by simp [hs]) (by simp [hs])
  have hr : d.reached = true := h.reached_eq (by tauto)
  constructor <;> simp [Deck.runMark, disarm, TableRow, hm, hr, h.markFloor_le hm]
  exact hh

theorem Rule.pausedMark (h : d.Rule) (hs : d.state = .paused) {m : Nat} (hm : m ≤ 3599999) : (d.pausedMark m).Rule := by
  have hrow := h.row
  simp only [TableRow, hs] at hrow
  refine ⟨?_, h.floor, hm, h.elapsed⟩
  simp only [TableRow, Deck.pausedMark, hs]
  exact hrow

theorem Rule.holdNow (h : d.Rule) (hs : d.state = .playing ∨ d.state = .stalled) : d.holdNow.Rule := by
  have hh : d.Holds d.stopId := by obtain hs | hs := hs <;> exact h.holds (by simp [hs]) (by simp [hs])
  have hr : d.reached = true := h.reached_eq (by tauto)
  refine ⟨?_, h.playTime_le, h.lastMark, h.elapsed⟩
  simp [Deck.holdNow, freeze, disarm, TableRow, hr]
  exact hh

theorem Rule.goFloor_le (h : d.Rule) : d.goFloor ≤ 3599999 := by
  have h1 := h.floor
  have h2 := h.lastMark
  unfold goFloor
  split
  · exact h2
  · exact max_le h1 h2

theorem Rule.goNow (h : d.Rule) (hs : d.state = .paused) : d.goNow.Rule := by
  have hh := h.holds (by simp [hs]) (by simp [hs])
  have hr : d.reached = true := h.reached_eq (by tauto)
  refine ⟨?_, h.goFloor_le, h.lastMark, by simp [Deck.goNow]⟩
  simp [Deck.goNow, disarm, TableRow, hr]
  exact hh

/-- Another key shift of the current entry leaves the row of the table (R85). -/
theorem Rule.changeKey (h : d.Rule) (hs : d.state = .playing ∨ d.state = .paused ∨ d.state = .stalled) (delta : Int) :
    (d.changeKey delta).Rule := by
  have hrow := h.row
  have hholds : ∀ i, d.Holds i → (d.changeKey delta).Holds i := by
    rintro i ⟨e, he, hi⟩
    exact ⟨{ e with keyShift := clampKey (e.keyShift + delta) }, by simp [Deck.changeKey, he], hi⟩
  refine ⟨?_, h.floor, h.lastMark, h.elapsed⟩
  obtain hs | hs | hs := hs <;> simp only [TableRow, hs] at hrow <;> simp only [TableRow, Deck.changeKey, hs] <;>
    exact ⟨hholds _ hrow.1, hrow.2⟩

/-- A deck that enters STOPPING with its entry finished (R68, R90). -/
theorem Rule.enterStopping_finishEntry (h : d.Rule) (hc : d.current.isSome = true) (r : Bool) :
    { d.enterStopping.finishEntry with reached := r }.Rule := by
  obtain ⟨e, he⟩ := Option.isSome_iff_exists.1 hc
  refine ⟨?_, h.playTime_le, h.lastMark, h.elapsed⟩
  simp [finishEntry, enterStopping, freeze, disarm, TableRow, Holds, he]

theorem Rule.forgetReached (h : d.Rule) (hs : d.state = .stopping) : { d with reached := false }.Rule := by
  have hrow := h.row
  simp only [TableRow, hs] at hrow
  refine ⟨?_, h.floor, h.lastMark, h.elapsed⟩
  simp only [TableRow, hs]
  exact hrow

theorem countDown_le {timer : Option Nat} {n : Nat} (h : ∃ k, timer = some k ∧ k ≤ n) :
    ∃ k, countDown timer = some k ∧ k ≤ n := by
  obtain ⟨k, rfl, hk⟩ := h
  exact ⟨k - 1, rfl, by omega⟩

@[simp] theorem countDown_none : countDown none = none := rfl

/-- A tick outside PLAYING counts the armed timer down (R76). -/
theorem Rule.tick_of_not_playing (h : d.Rule) (hs : d.state ≠ .playing) : d.tick.Rule := by
  have hrow := h.row
  refine ⟨?_, h.floor, h.lastMark, by simpa [tick, hs] using h.elapsed⟩
  cases hd : d.state
  case playing => exact absurd hd hs
  case idle => rw [h.eq_atReset hd]; simp [TableRow, tick, Deck.atReset, countDown]
  case starting =>
    simp only [TableRow, hd] at hrow
    obtain ⟨hh, hr, hf, hl, he, ht, h1, h2, h3⟩ := hrow
    simp [TableRow, tick, hd, hr, hf, hl, he, h1, h2, h3]
    exact ⟨hh, countDown_le ht⟩
  case paused =>
    simp only [TableRow, hd] at hrow
    obtain ⟨hh, hr, h1, h2, h3, h4⟩ := hrow
    simp [TableRow, tick, hd, hr, h1, h2, h3, h4]
    exact hh
  case stalled =>
    simp only [TableRow, hd] at hrow
    obtain ⟨hh, hr, h1, h2, ht, h3⟩ := hrow
    simp [TableRow, tick, hd, hr, h1, h2, h3]
    exact ⟨hh, countDown_le ht⟩
  case stopping =>
    simp only [TableRow, hd] at hrow
    obtain ⟨hh, h1, h2, h3, ht⟩ := hrow
    simp [TableRow, tick, hd, h1, h2, h3]
    exact ⟨hh, countDown_le ht⟩

/-- A tick in PLAYING that does not run the stall timer out (R76). -/
theorem Rule.tick_of_playing (h : d.Rule) (hs : d.state = .playing) (hd : d.tick.stallDue = false) : d.tick.Rule := by
  have hrow := h.row
  simp only [TableRow, hs] at hrow
  obtain ⟨hh, hr, he, h1, ht, h2, h3⟩ := hrow
  have hlt : d.elapsed + 1 < 500 := by
    simp [stallDue, tick, hs, ht, countDown] at hd
    omega
  have hmin : min (d.elapsed + 1) 500 = d.elapsed + 1 := by omega
  refine ⟨?_, h.floor, h.lastMark, by simp [tick, hs]⟩
  simp [TableRow, tick, hs, hr, h1, h2, h3, ht, hmin, hlt, countDown]
  exact ⟨hh, by omega⟩

/-- A stall in PLAYING (R80), whatever the play clock had counted. -/
theorem stall_rule (hs : d.state = .playing) (hh : d.Holds d.stopId) (hr : d.reached = true)
    (hl : d.lastMark ≤ 3599999) (he : d.elapsed ≤ 500) : d.stall.Rule := by
  refine ⟨?_, ?_, hl, he⟩
  · simp [TableRow, stall, freeze, disarm, hr]
    exact hh
  · simp only [stall, freeze, disarm, playTime, hs, if_true]
    exact Nat.min_le_right _ _

theorem Rule.stall (h : d.Rule) (hs : d.state = .playing) : d.stall.Rule :=
  stall_rule hs (h.holds (by simp [hs]) (by simp [hs])) (h.reached_eq (.inl hs)) h.lastMark h.elapsed

/-- The tick that runs the stall timer out stalls the deck (R80). -/
theorem Rule.tick_stall (h : d.Rule) (hs : d.state = .playing) : d.tick.stall.Rule :=
  stall_rule (d := d.tick) hs (h.holds (by simp [hs]) (by simp [hs])) (h.reached_eq (.inl hs)) h.lastMark
    (by simp [tick, hs])

end Sys2Proof.Machine.Deck
end

section
/-! # The queue's entries, the ids carried and the staging bank (R1, R4, R50) -/

namespace Sys2Proof.Machine

open State

/-! ## Entries taken out and put back -/

theorem insertAfter_perm {α : Type} (l : List α) (i : Nat) (x : α) : (insertAfter l i x).Perm (x :: l) := by
  have h := List.perm_middle (a := x) (l₁ := l.take i) (l₂ := l.drop i)
  rwa [List.take_append_drop] at h

theorem nodup_of_subperm {α : Type} {l m : List α} (h : l.Subperm m) (hm : m.Nodup) : l.Nodup := by
  obtain ⟨k, hp, hs⟩ := h
  exact hp.nodup_iff.1 (hs.nodup hm)

namespace RoomQueue

variable {q : RoomQueue} {e : Entry} {i : Nat}

theorem find_mem (h : q.find i = some e) : e ∈ q.entries := List.mem_of_find?_eq_some h

theorem find_id (h : q.find i = some e) : e.id = i := by
  simpa using List.find?_some h

/-- The entry found by an id and the entries without it are the queue's entries. -/
theorem perm_entriesWithout (h : q.find i = some e) : q.entries.Perm (e :: q.entriesWithout i) := by
  unfold find at h
  unfold entriesWithout
  generalize q.entries = l at h
  induction l with
  | nil => simp at h
  | cons x l ih =>
    by_cases hx : x.id = i
    · simp only [List.find?_cons, beq_iff_eq.2 hx, Option.some.injEq] at h
      subst h
      simp [hx]
    · simp only [List.find?_cons, beq_eq_false_iff_ne.2 hx] at h
      simpa [hx] using ((ih h).cons x).trans (List.Perm.swap e x _)

theorem headId_eq_none : q.headId = none ↔ q.entries = [] := by
  simp [headId]

/-- A move keeps the queue's entries (R11). -/
theorem moveTo_perm (h : q.find i = some e) (position : Nat) : (q.moveTo e position).entries.Perm q.entries := by
  have hid := find_id h
  subst hid
  exact (insertAfter_perm _ _ _).trans (perm_entriesWithout h).symm

/-- A promotion keeps the queue's entries but for one priority mark (R12). -/
theorem promoteEntry_perm (h : q.find i = some e) :
    (q.promoteEntry e).entries.Perm ({ e with priority := true } :: q.entriesWithout i) := by
  have hid := find_id h
  subst hid
  exact insertAfter_perm _ _ _

theorem promoteEntry_ids (h : q.find i = some e) :
    ((q.promoteEntry e).entries.map (·.id)).Perm (q.entries.map (·.id)) := by
  refine ((promoteEntry_perm h).map _).trans ?_
  exact ((perm_entriesWithout h).map (·.id)).symm

end RoomQueue

/-- Two entries of a queue without a repeated id that carry the same id are the same. -/
theorem entry_eq_of_id_eq {l : List Entry} (h : (l.map (·.id)).Nodup) {x y : Entry} (hx : x ∈ l) (hy : y ∈ l)
    (hxy : x.id = y.id) : x = y :=
  List.inj_on_of_nodup_map h hx hy hxy

/-! ## The ids carried (R4, R68) -/

namespace State

variable {s t : State}

theorem entryIds_nodup (h : s.IdRule) : (s.room.entries.map (·.id)).Nodup := by
  have := h.once
  unfold carriedIds at this
  exact (List.nodup_append.1 (List.nodup_append.1 this).1).1

theorem entryId_range (h : s.IdRule) {e : Entry} (he : e ∈ s.room.entries) : 1 ≤ e.id ∧ e.id ≤ 250 :=
  h.range _ (by simp only [carriedIds, List.mem_append, List.mem_map]; exact .inl (.inl ⟨e, he, rfl⟩))

/-- The ids carried are in use (R4). -/
theorem carriedIds_subset_idsInUse (s : State) : s.carriedIds ⊆ s.idsInUse := by
  intro i hi
  simp only [carriedIds, idsInUse, List.mem_append, List.mem_filter] at hi ⊢
  tauto

/-- Ids carried that are among those carried before keep the rule, where the stop id stands. -/
theorem IdRule.of_subperm (h : s.IdRule) (hsub : t.carriedIds.Subperm s.carriedIds)
    (hstop : t.deck.state ≠ .idle → s.deck.state ≠ .idle ∧ t.deck.stopId = s.deck.stopId)
    (hlast : t.room.lastId = s.room.lastId) : t.IdRule where
  once := nodup_of_subperm hsub h.once
  range i hi := h.range i (hsub.subset hi)
  stopId hd := by rw [(hstop hd).2]; exact h.stopId (hstop hd).1
  last := hlast ▸ h.last

/-- The queue changed: the ids of its entries are among those before (R4). -/
theorem IdRule.setRoom (h : s.IdRule) {q : RoomQueue}
    (hsub : (q.entries.map (·.id)).Subperm (s.room.entries.map (·.id))) (hlast : q.lastId = s.room.lastId) :
    (s.setRoom q).IdRule := by
  refine h.of_subperm ?_ (fun hd => ⟨hd, rfl⟩) hlast
  exact (hsub.append (List.Subperm.refl _)).append (List.Subperm.refl _)

/-- A new entry with a fresh id in range (R4). -/
theorem IdRule.enrol (h : s.IdRule) {e : Entry} (behind : Nat) (hfresh : e.id ∉ s.idsInUse)
    (hrange : 1 ≤ e.id ∧ e.id ≤ 250) : (s.setRoom (s.room.enrol e behind)).IdRule := by
  have hperm : (s.setRoom (s.room.enrol e behind)).carriedIds.Perm (e.id :: s.carriedIds) := by
    have hq := (insertAfter_perm s.room.entries behind e).map (·.id)
    exact (hq.append_right _).append_right _
  refine ⟨?_, fun i hi => ?_, h.stopId, hrange.2⟩
  · rw [hperm.nodup_iff, List.nodup_cons]
    exact ⟨fun hi => hfresh (carriedIds_subset_idsInUse s hi), h.once⟩
  · obtain rfl | hi := List.mem_cons.1 (hperm.subset hi)
    · exact hrange
    · exact h.range i hi

/-- The head leaves the queue for an IDLE deck (R71). -/
theorem IdRule.start (h : s.IdRule) (hd : s.deck.current = none) {e : Entry} {rest : List Entry}
    (he : s.room.entries = e :: rest) (hroom : t.room.entries = rest) (hlast : t.room.lastId = s.room.lastId)
    (hcur : t.deck.current = some e) (hstop : t.deck.stopId = e.id) (hres : t.results.history = s.results.history) :
    t.IdRule := by
  have hrange := entryId_range h (e := e) (by simp [he])
  have hne : (e.id != 0) = true := by simp; omega
  have hs : s.carriedIds = e.id :: (rest.map (·.id) ++ s.results.history.map (·.id)) := by
    simp [carriedIds, hd, he]
  have ht : t.carriedIds = rest.map (·.id) ++ e.id :: s.results.history.map (·.id) := by
    simp [carriedIds, hroom, hcur, hres, hne]
  have hperm : t.carriedIds.Perm s.carriedIds := by rw [hs, ht]; exact List.perm_middle
  exact ⟨hperm.nodup_iff.2 h.once, fun i hi => h.range i (hperm.subset hi), fun _ => by rw [hstop]; exact hrange,
    by rw [hlast]; exact h.last⟩

/-- The song of the staging owner is the head's, while staging prepares the head (R50, R51). -/
theorem ownerSong_eq (h : s.store.owner = s.room.headId) :
    s.ownerSong = (s.room.entries.head?.map (·.song)).getD 0 := by
  unfold ownerSong
  rw [h]
  unfold RoomQueue.headId RoomQueue.find
  cases s.room.entries <;> simp

end State

/-! ## The staging bank (R47, R50, R52, R64) -/

namespace SongStore

variable {st : SongStore}

@[simp] theorem staging_setStaging (st : SongStore) (b : Bank) : (st.setStaging b).staging = b := by
  unfold setStaging staging
  split <;> simp_all

@[simp] theorem setStaging_state (st : SongStore) (b : Bank) : (st.setStaging b).state = st.state := by
  unfold setStaging; split <;> rfl

@[simp] theorem setStaging_owner (st : SongStore) (b : Bank) : (st.setStaging b).owner = st.owner := by
  unfold setStaging; split <;> rfl

/-- The bank is not moved by a change of the staging state or owner. -/
theorem staging_with (st : SongStore) (x : StagingState) (o : Option Nat) :
    { st with state := x, owner := o }.staging = st.staging := rfl

@[simp] theorem want_staging (st : SongStore) (hd : Option Nat) : (st.want hd).staging = st.staging := by
  cases hd <;> rfl

theorem want_state (st : SongStore) (hd : Option Nat) :
    (st.want hd).state = if hd.isSome then .requested else .empty := by
  cases hd <;> rfl

@[simp] theorem want_owner (st : SongStore) (hd : Option Nat) : (st.want hd).owner = hd := by
  cases hd <;> rfl

theorem nameHead_staging (h : st.BankAsState) (hd : Option Nat) : (st.nameHead hd).staging = Bank.cleared := by
  unfold nameHead
  rw [want_staging]
  split
  · next he => simpa only [BankAsState, he] using h
  · exact staging_setStaging st Bank.cleared

theorem nameHead_state (st : SongStore) (hd : Option Nat) :
    (st.nameHead hd).state = if hd.isSome then .requested else .empty := want_state _ _

@[simp] theorem nameHead_owner (st : SongStore) (hd : Option Nat) : (st.nameHead hd).owner = hd := want_owner _ _

theorem swap_staging (st : SongStore) (hd : Option Nat) : (st.swap hd).staging = Bank.cleared := by
  unfold swap
  rw [want_staging, staging_setStaging]

theorem swap_state (st : SongStore) (hd : Option Nat) :
    (st.swap hd).state = if hd.isSome then .requested else .empty := want_state _ _

@[simp] theorem swap_owner (st : SongStore) (hd : Option Nat) : (st.swap hd).owner = hd := want_owner _ _

/-- A stage record that is not STALE names the owner, of a song that is wanted. -/
theorem isStale_eq_false {i : Nat} (h : st.isStale i = false) : st.state ≠ .empty ∧ st.owner = some i := by
  simpa [isStale] using h

theorem openRefusal_eq_none {song : Nat} {h : BankHeader} (hr : st.openRefusal song h = none) :
    st.state ≠ .empty ∧ st.owner = some h.entryId := by
  unfold openRefusal at hr
  split at hr
  · cases hr
  · exact isStale_eq_false (by simp_all)

theorem lineRefusal_eq_none {l : LineFields} (hr : st.lineRefusal l = none) : st.state = .loading := by
  unfold lineRefusal at hr
  dsimp only at hr
  split at hr
  · cases hr
  split at hr
  · cases hr
  split at hr
  · cases hr
  · simp_all

theorem noteRefusal_eq_none {n : NoteFields} (hr : st.noteRefusal n = none) : st.state = .loading := by
  unfold noteRefusal at hr
  dsimp only at hr
  split at hr
  · cases hr
  split at hr
  · cases hr
  split at hr
  · cases hr
  · simp_all

theorem closeRefusal_eq_none {i : Nat} (hr : st.closeRefusal i = none) : st.state = .loading := by
  unfold closeRefusal at hr
  split at hr
  · cases hr
  split at hr
  · cases hr
  · simp_all

end SongStore

namespace State

variable {s t : State}

/-- Staging told of the head: its bank is empty, and it wants the head's song or none (R50, R52). -/
theorem stagingRule_of_told (hbank : s.store.staging = Bank.cleared)
    (hstate : s.store.state = if s.room.headId.isSome then .requested else .empty)
    (howner : s.store.owner = s.room.headId) : s.StagingRule := by
  refine ⟨howner, ?_, ?_⟩
  · rw [hstate, ← RoomQueue.headId_eq_none]
    cases s.room.headId <;> simp
  · unfold SongStore.BankAsState
    rw [hstate]
    cases s.room.headId <;> exact hbank

/-- The same staging controller and a queue with the same head keep the rule. -/
theorem StagingRule.of_eq (h : s.StagingRule) (hs : t.store = s.store) (hr : t.room.headId = s.room.headId) :
    t.StagingRule := by
  refine ⟨by rw [hs, hr]; exact h.owner, ?_, by rw [hs]; exact h.bank⟩
  rw [hs, h.empty, ← RoomQueue.headId_eq_none, ← RoomQueue.headId_eq_none, hr]

/-- A stage record stored: the staging state or the bank changes while a song is wanted (R50). -/
theorem StagingRule.setStore (h : s.StagingRule) {st : SongStore} (howner : st.owner = s.store.owner)
    (hwas : s.store.state ≠ .empty) (his : st.state ≠ .empty) (hbank : st.BankAsState) : (s.setStore st).StagingRule := by
  refine ⟨howner.trans h.owner, ?_, hbank⟩
  have hne : s.room.entries ≠ [] := fun he => hwas (h.empty.2 he)
  simp [his, hne]

end State

end Sys2Proof.Machine
end

section
/-! # What each shared operation can do (one inversion lemma per operation) -/

namespace Sys2Proof.Machine.State

variable {s : State}

/-! ## Starts and re-examinations (R70, R71) -/

@[simp] theorem startEntry_room (s : State) (e : Entry) (rest : List Entry) :
    (s.startEntry e rest).room = { s.room with entries := rest, shortage := false } := by
  simp [startEntry]

@[simp] theorem startEntry_deck (s : State) (e : Entry) (rest : List Entry) :
    (s.startEntry e rest).deck = s.deck.startWith e := by
  simp [startEntry]

@[simp] theorem startEntry_store (s : State) (e : Entry) (rest : List Entry) :
    (s.startEntry e rest).store = s.store.swap (rest.head?.map (·.id)) := by
  simp [startEntry, RoomQueue.headId]

/-- A re-examination starts the head of an IDLE deck out of standby, notes a shortage, or does nothing. -/
theorem reexamine_cases (s : State) : s.reexamine = s ∨ s.reexamine = s.noteShortage ∨
    (s.deck.state = .idle ∧ s.desk.standby = false ∧
      ∃ e rest, s.room.entries = e :: rest ∧ s.reexamine = s.startEntry e rest) := by
  by_cases hr : s.ReadyButForCredits
  · have hready := startReady_of_ready hr
    obtain ⟨hd, hsb, -, he, -⟩ := hr
    obtain ⟨e, rest, he⟩ := List.exists_cons_of_ne_nil he
    by_cases hc : s.room.mayStart = true
    · exact .inr (.inr ⟨hd, hsb, e, rest, he, by simp [reexamine, hready, hc, start, he]⟩)
    · exact .inr (.inl (by simp [reexamine, hready, hc]))
  · exact .inl (reexamine_not_ready hr)

/-- A re-examination as an event of its own posts where it starts the head, and else changes no more than the shortage
mark. -/
theorem reexamineEvent_cases (s : State) :
    s.reexamineEvent = s.reexamine.post ∨ s.reexamineEvent = s ∨ s.reexamineEvent = s.noteShortage := by
  unfold reexamineEvent reexamine
  cases s.startReady <;> cases s.room.mayStart <;> simp

theorem noteShortage_room (s : State) : s.noteShortage.room = { s.room with shortage := true } := by
  unfold noteShortage
  split
  · next h => simp [← h]
  · simp

/-! ## The requests that alter the queue (R7 to R13) -/

/-- The queues that an accepted request can make of the queue: one with a new entry, one with an entry taken out, one with a
normal entry put elsewhere, one with a normal entry promoted. -/
inductive Alters (s : State) : RoomQueue → Prop
  | enrol (o : Origin) (priority : Bool) (r : SongRequest) (mode : MicMode) : s.room.entries.length < 32 →
      1 ≤ r.song → r.song ≤ 999999 →
      Alters s (s.room.enrol (s.room.newEntry s.idsInUse o priority r mode) (s.room.placeBehind priority))
  | remove (i : Nat) (e : Entry) : s.room.find i = some e → Alters s (s.room.remove i)
  | move (i : Nat) (e : Entry) (target : Nat) : s.room.find i = some e → e.priority = false →
      Alters s (s.room.moveTo e (s.room.moveTarget target))
  | promote (i : Nat) (e : Entry) : s.room.find i = some e → e.priority = false → Alters s (s.room.promoteEntry e)

/-- A queue request is refused and changes nothing, or is the queue event of an altered queue. -/
def Queued (s t : State) : Prop := t = s ∨ ∃ q, s.Alters q ∧ t = s.queueEvent q

theorem submit_queued (s : State) (o : Origin) (b : Bool) (r : SongRequest) : s.Queued (s.submit o b r).1 := by
  unfold submit
  split
  · exact .inl rfl
  split
  · exact .inl rfl
  split
  · exact .inl rfl
  split
  · exact .inl rfl
  split
  · exact .inl rfl
  · next hfull _ hsong _ mode _ =>
      simp only [not_or, Config.queueCapacity, Config.maxSong] at hfull hsong
      exact .inr ⟨_, .enrol o b r mode (by omega) (by omega) (by omega), rfl⟩

theorem cancel_queued (s : State) (o : Origin) (i : Nat) : s.Queued (s.cancel o i).1 := by
  unfold cancel
  split
  · exact .inl rfl
  · next e he =>
    split
    · exact .inl rfl
    · exact .inr ⟨_, .remove i e he, rfl⟩

theorem removeId_queued (s : State) (i : Nat) : s.Queued (s.removeId i).1 := by
  unfold removeId
  split
  · exact .inl rfl
  · next e he => exact .inr ⟨_, .remove i e he, rfl⟩

theorem moveEntry_queued {i : Nat} {e : Entry} (he : s.room.find i = some e) (hp : e.priority = false) (target : Nat) :
    s.Queued (s.moveEntry e target).1 := by
  unfold moveEntry
  dsimp only
  split
  · exact .inl rfl
  · exact .inr ⟨_, .move i e target he hp, rfl⟩

theorem deskMove_queued (s : State) (i target : Nat) : s.Queued (s.deskMove i target).1 := by
  unfold deskMove
  split
  · exact .inl rfl
  · next e he =>
    split
    · exact .inl rfl
    · exact moveEntry_queued he (by simp_all) target

theorem panelMove_queued (s : State) (o : Origin) (i target : Nat) : s.Queued (s.panelMove o i target).1 := by
  unfold panelMove
  split
  · exact .inl rfl
  split
  · exact .inl rfl
  · next e he =>
    split
    · exact .inl rfl
    split
    · exact .inl rfl
    · exact moveEntry_queued he (by simp_all) target

theorem promoteId_queued (s : State) (i : Nat) : s.Queued (s.promoteId i).1 := by
  unfold promoteId
  split
  · exact .inl rfl
  · next e he =>
    split
    · exact .inl rfl
    · exact .inr ⟨_, .promote i e he (by simp_all), rfl⟩

/-- A head event is nothing where the head stands, and else the head named, a re-examination and a posting. -/
theorem headEvent_cases (s : State) (before : Option Nat) : (s.room.headId = before ∧ s.headEvent before = s) ∨
    (s.room.headId ≠ before ∧ s.headEvent before = (s.setStore (s.store.nameHead s.room.headId)).reexamine.post) := by
  unfold headEvent
  split
  · exact .inl ⟨‹_›, rfl⟩
  · exact .inr ⟨‹_›, rfl⟩

/-! ## Stage records (R54 to R62) -/

theorem stageOpenEvent_cases (s : State) (h : BankHeader) : (s.stageOpenEvent h).1 = s ∨
    (s.store.openRefusal s.ownerSong h = none ∧ (s.stageOpenEvent h).1 = (s.setStore (s.store.openLoad h)).post) := by
  unfold stageOpenEvent
  split
  · exact .inl rfl
  · exact .inr ⟨‹_›, rfl⟩

theorem stageLineEvent_cases (s : State) (l : LineFields) : (s.stageLineEvent l).1 = s ∨
    (s.store.state = .loading ∧ ∃ part, (s.stageLineEvent l).1 =
      s.setStore (s.store.setStaging (s.store.staging.storeLine l part))) := by
  unfold stageLineEvent
  split
  · exact .inl rfl
  · exact .inl rfl
  · exact .inr ⟨SongStore.lineRefusal_eq_none ‹_›, _, rfl⟩

theorem stageNoteEvent_cases (s : State) (n : NoteFields) : (s.stageNoteEvent n).1 = s ∨
    (s.store.state = .loading ∧ ∃ part, (s.stageNoteEvent n).1 =
      s.setStore (s.store.setStaging (s.store.staging.storeNote n part))) := by
  unfold stageNoteEvent
  split
  · exact .inl rfl
  · exact .inl rfl
  · exact .inr ⟨SongStore.noteRefusal_eq_none ‹_›, _, rfl⟩

/-- A STAGE CLOSE is refused, or finds the counts to agree, or does not (R61). -/
theorem stageCloseEvent_cases (s : State) (i : Nat) : (s.stageCloseEvent i).1 = s ∨
    (s.store.state = .loading ∧ s.store.staging.countsAgree = true ∧
      (s.stageCloseEvent i).1 = (s.setStore { s.store with state := .ready }).reexamine.post) ∨
    (s.store.state = .loading ∧
      (s.stageCloseEvent i).1 = s.setStore { s.store.setStaging Bank.cleared with state := .requested }) := by
  unfold stageCloseEvent
  split
  · exact .inl rfl
  · next hr =>
    have hl := SongStore.closeRefusal_eq_none hr
    split
    · exact .inr (.inl ⟨hl, ‹_›, rfl⟩)
    · exact .inr (.inr ⟨hl, rfl⟩)

/-- A STAGE FAIL is STALE, or takes the entry it names out with a NO_STAGE record (R62). -/
theorem stageFailEvent_cases (s : State) (i : Nat) : (s.stageFailEvent i).1 = s ∨
    ∃ e, s.room.find i = some e ∧
      (s.stageFailEvent i).1 = (s.addRecord (ungradedRecord e .noStage)).queueEvent (s.room.remove i) := by
  unfold stageFailEvent
  split
  · exact .inl rfl
  split
  · exact .inl rfl
  · next e he => exact .inr ⟨e, he, rfl⟩

/-! ## Records and finalisation (R89, R162, R163) -/

@[simp] theorem addRecord_results (s : State) (r : HistoryRecord) : (s.addRecord r).results = s.results.add r := by
  unfold addRecord
  dsimp only
  split <;> simp

@[simp] theorem gradedRecord_id (e : Entry) (o : SongOutcome) (d : Nat) (f : Option FinalReport) :
    (gradedRecord e o d f).id = e.id := by
  cases f <;> rfl

@[simp] theorem finalise_deck (s : State) (o : SongOutcome) (t : Nat) : (s.finalise o t).deck = s.deck.finishEntry := by
  unfold finalise
  split
  · next h => cases hd : s.deck; simp_all [Deck.finishEntry]
  · dsimp only
    split <;> simp

/-- Finalisation adds one record of the current entry, graded by the final report where the entry reached playing (R89). -/
theorem finalise_cases (s : State) (o : SongOutcome) (t : Nat) {e : Entry} (he : s.deck.current = some e) :
    (s.deck.reached = true ∧ (s.finalise o t).grader = (s.graderFinalScores t).grader ∧ (s.finalise o t).results =
      s.results.add (gradedRecord e o t (s.graderFinalScores t).grader.report)) ∨
    (s.deck.reached = false ∧ (s.finalise o t).grader = s.graderSongEnded.grader ∧
      (s.finalise o t).results = s.results.add (ungradedRecord e o)) := by
  unfold finalise
  rw [he]
  dsimp only
  split
  · exact .inl ⟨‹_›, by simp, by simp⟩
  · exact .inr ⟨by simp_all, by simp, by simp⟩

/-- The history after finalisation: one record of the current entry in front (R89, R163). -/
theorem finalise_history (s : State) (o : SongOutcome) (t : Nat) {e : Entry} (he : s.deck.current = some e) :
    ∃ r : HistoryRecord, r.id = e.id ∧ (s.finalise o t).results.history = (r :: s.results.history).take 16 := by
  obtain ⟨-, -, h⟩ | ⟨-, -, h⟩ := finalise_cases s o t he
  · exact ⟨{ gradedRecord e o t _ with finish := s.results.nextFinish }, gradedRecord_id e o t _, by rw [h]; rfl⟩
  · exact ⟨{ ungradedRecord e o with finish := s.results.nextFinish }, rfl, by rw [h]; rfl⟩

/-! ## Time marks (R79) -/

/-- A RUN mark at a deck that plays an entry or waits for its first mark, or one that changes nothing. -/
theorem takeRun_cases (s : State) (m : Nat) : (s.takeRun m).1 = s ∨
    (s.deck.state = .starting ∧ (s.takeRun m).1 =
      ((s.setDeck (s.deck.firstMark m)).setRoom s.room.takeCredit).handAdvance (Deck.riseKind 0 m)) ∨
    ((s.deck.state = .playing ∨ s.deck.state = .stalled) ∧ (s.takeRun m).1 =
      (s.setDeck (s.deck.runMark m)).handAdvance (s.deck.markKind m)) ∨
    (s.deck.state = .paused ∧ (s.takeRun m).1 = s.setDeck (s.deck.pausedMark m)) := by
  unfold takeRun
  cases hd : s.deck.state <;> simp

/-- An END mark finalises the song at a marked deck, where one is held and not finished, and the deck returns to IDLE. -/
theorem takeEnd_cases (s : State) (m : Nat) : (s.takeEnd m).1 = s ∨
    (s.deck.state = .stopping ∧ (s.takeEnd m).1 = s.idleEvent) ∨
    (s.deck.state ≠ .idle ∧ s.deck.state ≠ .stopping ∧ ∃ (marked : State) (o : SongOutcome) (t : Nat),
      (s.takeEnd m).1 = (marked.finalise o t).idleEvent ∧
      (marked = s ∨ marked = (s.setDeck (s.deck.runMark m)).handAdvance (s.deck.markKind m) ∨
        marked = s.setDeck (s.deck.pausedMark m))) := by
  unfold takeEnd
  cases hd : s.deck.state
  case idle => exact .inl rfl
  case stopping => exact .inr (.inl ⟨rfl, rfl⟩)
  case starting => exact .inr (.inr ⟨by simp, by simp, _, _, _, rfl, .inl rfl⟩)
  case paused => exact .inr (.inr ⟨by simp, by simp, _, _, _, rfl, .inr (.inr rfl)⟩)
  all_goals exact .inr (.inr ⟨by simp, by simp, _, _, _, rfl, .inr (.inl rfl)⟩)

/-- A mark is refused, or taken as a RUN or an END mark at a time in range. -/
theorem takeMark_cases (s : State) (i m : Nat) (k : Byte) : (s.takeMark i m k).1 = s ∨
    (m ≤ 3599999 ∧ ((s.takeMark i m k).1 = (s.takeRun m).1 ∨ (s.takeMark i m k).1 = (s.takeEnd m).1)) := by
  unfold takeMark
  dsimp only
  split
  · exact .inl rfl
  split
  · exact .inl rfl
  · next hm =>
    have hm : m ≤ 3599999 := by simpa using hm
    split
    · exact .inl rfl
    · exact .inr ⟨hm, .inl rfl⟩
    · exact .inr ⟨hm, .inr rfl⟩

/-! ## Requests at the deck (R82, R84, R85, R87, R88) -/

theorem holdEvent_cases (s : State) : s.holdEvent.1 = s ∨
    ((s.deck.state = .playing ∨ s.deck.state = .stalled) ∧ s.holdEvent.1 = (s.setDeck s.deck.holdNow).post) := by
  unfold holdEvent
  split
  · exact .inr ⟨‹_›, rfl⟩
  · exact .inl rfl

theorem goEvent_cases (s : State) : s.goEvent.1 = s ∨
    (s.deck.state = .paused ∧ s.goEvent.1 = ((s.setDeck s.deck.goNow).handAdvance s.deck.goKind).post) := by
  unfold goEvent
  split
  · exact .inr ⟨‹_›, rfl⟩
  · exact .inl rfl

theorem keyEvent_cases (s : State) (delta : Int) : (s.keyEvent delta).1 = s ∨
    ((s.deck.state = .playing ∨ s.deck.state = .paused ∨ s.deck.state = .stalled) ∧
      (s.keyEvent delta).1 = (s.setDeck (s.deck.changeKey (max (-12) (min 12 delta)))).post) := by
  unfold keyEvent
  split
  · exact .inr ⟨‹_›, rfl⟩
  · exact .inl rfl

theorem skipEvent_cases (s : State) (i : Nat) : (s.skipEvent i).1 = s ∨
    (s.deck.state ≠ .idle ∧ s.deck.state ≠ .stopping ∧ (s.skipEvent i).1 = (s.endSong .skipped).post) := by
  unfold skipEvent
  split
  · exact .inl rfl
  split
  · exact .inl rfl
  split
  · exact .inl rfl
  · next h _ => exact .inr ⟨fun hi => h (.inl hi), fun hs => h (.inr hs), rfl⟩

theorem stopSongEvent_cases (s : State) : s.stopSongEvent.1 = s ∨
    (s.deck.state ≠ .idle ∧ s.deck.state ≠ .stopping ∧ s.stopSongEvent.1 = (s.endSong .stopped).post) := by
  unfold stopSongEvent
  split
  · exact .inl rfl
  · next h => exact .inr ⟨fun hi => h (.inl hi), fun hs => h (.inr hs), rfl⟩

/-! ## ROOM CLEAR and the tick (R76, R92) -/

/-- The deck's part of ROOM CLEAR: nothing in IDLE, a finished entry forgotten in STOPPING, and else the song dropped. -/
theorem clearDeck_cases (s : State) : (s.deck.state = .idle ∧ s.clearDeck = s) ∨
    (s.deck.state = .stopping ∧ s.clearDeck = s.setDeck { s.deck with reached := false }) ∨
    (s.deck.state ≠ .idle ∧ s.deck.state ≠ .stopping ∧ s.clearDeck = s.graderDiscard.lyricDropSong.setDeck
      { s.deck.enterStopping.finishEntry with reached := false }) := by
  unfold clearDeck
  cases hd : s.deck.state <;> simp

/-- The deck's part of a tick: a count, in PLAYING with a STEP handed, and the stall where the stall timer runs out. -/
theorem tickDeck_cases (s : State) : (s.deck.state ≠ .playing ∧ tickDeck s = s.setDeck s.deck.tick) ∨
    (s.deck.state = .playing ∧ s.deck.tick.stallDue = false ∧
      tickDeck s = (s.setDeck s.deck.tick).handAdvance .step) ∨
    (s.deck.state = .playing ∧ tickDeck s = stallExpiry ((s.setDeck s.deck.tick).handAdvance .step)) := by
  unfold tickDeck
  dsimp only
  split
  · split
    · exact .inr (.inr ⟨‹_›, rfl⟩)
    · exact .inr (.inl ⟨‹_›, by simp_all, rfl⟩)
  · exact .inl ⟨‹_›, rfl⟩

/-- The account changed by the desk: stored, and re-examined where the credits or the flag changed (R70). -/
theorem accountEvent_cases (s : State) (q : RoomQueue) :
    s.accountEvent q = s.setRoom q ∨ s.accountEvent q = (s.setRoom q).reexamineEvent := by
  unfold accountEvent
  split
  · exact .inl rfl
  · exact .inr rfl

/-- STANDBY is entered from an IDLE deck, or changes nothing (R200). -/
theorem standbyEvent_cases (s : State) : s.standbyEvent.1 = s ∨ (s.deck.state = .idle ∧
    s.standbyEvent.1 = (s.setDesk { s.desk with standby := true }).setFront s.front.turnOff) := by
  unfold standbyEvent
  split
  · exact .inl rfl
  split
  · exact .inl rfl
  · next h => exact .inr ⟨by simpa using h, rfl⟩

end Sys2Proof.Machine.State
end

section
/-! # Ids, staging, the deck and the directive stay in step (R4, R50, R51, R67 to R69)

`Coherent` is what holds of the blocks within an event, before the directive is posted; `InStep` adds the posted directive. -/

namespace Sys2Proof.Machine.State

/-- The queue and the history within their sizes, the deck in its table, staging preparing the head, no id carried twice. -/
structure Coherent (s : State) : Prop where
  capacity : s.room.entries.length ≤ 32
  history : s.results.history.length ≤ 16
  deck : s.deck.Rule
  staging : s.StagingRule
  ids : s.IdRule

/-- A coherent state whose directive says what the deck and the staging controller do. -/
structure InStep (s : State) : Prop extends s.Coherent where
  posted : s.Posted

variable {s t : State}

/-! ## Updates of other blocks -/

theorem IdRule.of_eq (h : s.IdRule) (hroom : t.room.entries = s.room.entries) (hlast : t.room.lastId = s.room.lastId)
    (hhist : t.results.history = s.results.history) (hdeck : t.deck = s.deck) : t.IdRule := by
  have hc : t.carriedIds = s.carriedIds := by unfold carriedIds; rw [hroom, hdeck, hhist]
  exact h.of_subperm (hc ▸ List.Subperm.refl _) (fun hd => by rw [hdeck] at hd ⊢; exact ⟨hd, rfl⟩) hlast

theorem Coherent.of_eq (h : s.Coherent) (hroom : t.room.entries = s.room.entries := by simp)
    (hlast : t.room.lastId = s.room.lastId := by simp) (hhist : t.results.history = s.results.history := by simp)
    (hdeck : t.deck = s.deck := by simp) (hstore : t.store = s.store := by simp) : t.Coherent where
  capacity := hroom ▸ h.capacity
  history := hhist ▸ h.history
  deck := hdeck ▸ h.deck
  staging := h.staging.of_eq hstore (by unfold RoomQueue.headId; rw [hroom])
  ids := h.ids.of_eq hroom hlast hhist hdeck

/-- A directive that stays posted while what it says of the deck and of staging stays as it was. -/
theorem Posted.of_eq (h : s.Posted) (hport : t.port.directive = s.port.directive) (hd : t.directiveNow = s.directiveNow) :
    t.Posted := by
  unfold Posted
  rw [hport, hd]
  exact h

theorem directiveNow_of_eq (hroom : t.room.entries = s.room.entries) (hdeck : t.deck = s.deck)
    (hstore : t.store = s.store) : t.directiveNow = s.directiveNow := by
  unfold directiveNow ownerSong RoomQueue.find
  rw [hroom, hdeck, hstore]

/-- The deck in another state of the same play order, with the same entry (R69). -/
theorem directiveNow_setDeck {d : Deck} (ho : d.playOrder = s.deck.playOrder) (hi : d.state = .idle ↔ s.deck.state = .idle)
    (hstop : d.stopId = s.deck.stopId) (hcur : d.current = s.deck.current) :
    (s.setDeck d).directiveNow = s.directiveNow := by
  unfold directiveNow Deck.song Deck.key
  simp only [setDeck_deck, setDeck_store, ho, hi, hstop, hcur]
  rfl

/-- The staging controller changed with the same owner, and a song asked for or not as before (R51). -/
theorem directiveNow_setStore {st : SongStore} (howner : st.owner = s.store.owner)
    (hload : (st.state = .requested ∨ st.state = .loading) ↔ (s.store.state = .requested ∨ s.store.state = .loading)) :
    (s.setStore st).directiveNow = s.directiveNow := by
  have hsong : (s.setStore st).ownerSong = s.ownerSong := by
    unfold ownerSong
    rw [setStore_store, howner]
    rfl
  unfold directiveNow
  rw [setStore_store, setStore_deck, howner, hsong]
  simp only [hload]

theorem InStep.of_eq (h : s.InStep) (hroom : t.room.entries = s.room.entries := by simp)
    (hlast : t.room.lastId = s.room.lastId := by simp) (hhist : t.results.history = s.results.history := by simp)
    (hdeck : t.deck = s.deck := by simp) (hstore : t.store = s.store := by simp)
    (hport : t.port.directive = s.port.directive := by simp) : t.InStep where
  toCoherent := h.toCoherent.of_eq hroom hlast hhist hdeck hstore
  posted := h.posted.of_eq hport (directiveNow_of_eq hroom hdeck hstore)

/-- A posting puts the directive in step (R180). -/
theorem Coherent.post (h : s.Coherent) : s.post.InStep := by
  refine ⟨h.of_eq, ?_⟩
  have hnow : s.post.directiveNow = s.directiveNow := directiveNow_of_eq (by simp) (by simp) (by simp)
  unfold Posted
  rw [hnow]
  unfold State.post
  split
  · exact Eq.symm ‹_›
  · rfl

/-! ## The deck changed -/

/-- The deck changed within its table, with the same entry and stop id. -/
theorem Coherent.setDeck (h : s.Coherent) {d : Deck} (hd : d.Rule) (hstop : d.stopId = s.deck.stopId)
    (hcur : d.current.map (·.id) = s.deck.current.map (·.id)) (hi : d.state ≠ .idle → s.deck.state ≠ .idle) :
    (s.setDeck d).Coherent := by
  have hids : d.current.toList.map (·.id) = s.deck.current.toList.map (·.id) := by
    cases hdc : d.current <;> cases hsc : s.deck.current <;> simp_all
  have hc : (s.setDeck d).carriedIds = s.carriedIds := by
    unfold carriedIds
    simp only [setDeck_room, setDeck_deck, setDeck_results, hids]
  exact ⟨h.capacity, h.history, hd, h.staging.of_eq rfl rfl,
    h.ids.of_subperm (hc ▸ List.Subperm.refl _) (fun hd => ⟨hi hd, hstop⟩) rfl⟩

/-- The deck changed within its table and its play order, with the same entry and stop id: nothing is posted. -/
theorem InStep.setDeck (h : s.InStep) {d : Deck} (hd : d.Rule) (hstop : d.stopId = s.deck.stopId)
    (hcur : d.current = s.deck.current) (hi : d.state = .idle ↔ s.deck.state = .idle)
    (ho : d.playOrder = s.deck.playOrder) : (s.setDeck d).InStep :=
  ⟨h.toCoherent.setDeck hd hstop (by rw [hcur]) (fun hn => fun hs => hn (hi.2 hs)),
    h.posted.of_eq rfl (directiveNow_setDeck ho hi hstop hcur)⟩

/-! ## Starts and re-examinations (R64, R70, R71) -/

theorem Coherent.startEntry (h : s.Coherent) (hd : s.deck.state = .idle) {e : Entry} {rest : List Entry}
    (he : s.room.entries = e :: rest) : (s.startEntry e rest).Coherent where
  capacity := by
    have := h.capacity
    rw [he, List.length_cons] at this
    simp
    omega
  history := by simpa using h.history
  deck := by simpa using Deck.startWith_rule e
  staging := stagingRule_of_told (by simp [SongStore.swap_staging])
    (by simp [SongStore.swap_state, RoomQueue.headId]) (by simp [RoomQueue.headId])
  ids := h.ids.start (by rw [h.deck.eq_atReset hd]; rfl) he (by simp) (by simp) (by simp [Deck.startWith])
    (by simp [Deck.startWith]) (by simp)

theorem InStep.noteShortage (h : s.InStep) : s.noteShortage.InStep :=
  h.of_eq (by simp [noteShortage_room]) (by simp [noteShortage_room])

theorem Coherent.reexamine (h : s.Coherent) : s.reexamine.Coherent := by
  obtain hr | hr | ⟨hd, -, e, rest, he, hr⟩ := s.reexamine_cases <;> rw [hr]
  · exact h
  · exact h.of_eq (by simp [noteShortage_room]) (by simp [noteShortage_room])
  · exact h.startEntry hd he

theorem InStep.reexamineEvent (h : s.InStep) : s.reexamineEvent.InStep := by
  obtain hr | hr | hr := s.reexamineEvent_cases <;> rw [hr]
  · exact h.toCoherent.reexamine.post
  · exact h
  · exact h.noteShortage

/-! ## Queue events (R8, R16, R52) -/

/-- The queue changed, with its ids as they must be: staging is told of a new head, and where the head stands its song does
too.  The state before need not carry each id once: STAGE FAIL makes its record first. -/
theorem inStep_queueEvent {q : RoomQueue} (hhist : s.results.history.length ≤ 16) (hdeck : s.deck.Rule)
    (hstaging : s.StagingRule) (hposted : s.Posted) (hcap : q.entries.length ≤ 32) (hids : (s.setRoom q).IdRule)
    (hsongs : ∀ x ∈ q.entries, ∀ y ∈ s.room.entries, x.id = y.id → x.song = y.song) : (s.queueEvent q).InStep := by
  by_cases hhead : q.headId = s.room.headId
  · rw [queueEvent_same hhead]
    have hst : (s.setRoom q).StagingRule := hstaging.of_eq rfl hhead
    have hcoh : (s.setRoom q).Coherent := ⟨hcap, hhist, hdeck, hst, hids⟩
    have hsong : (s.setRoom q).ownerSong = s.ownerSong := by
      rw [ownerSong_eq hst.owner, ownerSong_eq hstaging.owner]
      unfold RoomQueue.headId at hhead
      rw [setRoom_room]
      cases hq : q.entries <;> cases hs : s.room.entries <;> simp_all
    have hnow : (s.setRoom q).directiveNow = s.directiveNow := by
      unfold directiveNow
      rw [hsong]
      rfl
    exact InStep.of_eq (s := s.setRoom q) ⟨hcoh, hposted.of_eq rfl hnow⟩
  · have hcoh : (((s.setRoom q).raise .queueChanged).setStore (s.store.nameHead q.headId)).Coherent :=
      ⟨by simpa using hcap, by simpa using hhist, by simpa using hdeck,
        stagingRule_of_told (by simpa using SongStore.nameHead_staging hstaging.bank _)
          (by simpa using SongStore.nameHead_state s.store q.headId) (by simp),
        hids.of_eq (by simp) (by simp) (by simp) (by simp)⟩
    have hq : s.queueEvent q =
        (((s.setRoom q).raise .queueChanged).setStore (s.store.nameHead q.headId)).reexamine.post := by
      unfold queueEvent headEvent
      simp [hhead]
    rw [hq]
    exact hcoh.reexamine.post

/-- An accepted request leaves ids carried once, as many entries as may be, and each old entry its song. -/
theorem Alters.coherent (h : s.Coherent) {q : RoomQueue} (ha : s.Alters q) :
    q.entries.length ≤ 32 ∧ (s.setRoom q).IdRule ∧
      ∀ x ∈ q.entries, ∀ y ∈ s.room.entries, x.id = y.id → x.song = y.song := by
  have hnodup := entryIds_nodup h.ids
  have hcap := h.capacity
  have hsame : ∀ x ∈ s.room.entries, ∀ y ∈ s.room.entries, x.id = y.id → x.song = y.song :=
    fun x hx y hy hxy => by rw [entry_eq_of_id_eq hnodup hx hy hxy]
  cases ha with
  | enrol o priority r mode hlt _ _ =>
    have hfresh := issueId_fresh h.ids.last h.capacity h.history
    have hperm := insertAfter_perm s.room.entries (s.room.placeBehind priority)
      (s.room.newEntry s.idsInUse o priority r mode)
    refine ⟨?_, h.ids.enrol _ hfresh.1 hfresh.2, fun x hx y hy hxy => ?_⟩
    · exact hperm.length_eq.trans_le (by rw [List.length_cons]; omega)
    · obtain rfl | hx := List.mem_cons.1 (hperm.subset hx)
      · refine absurd ?_ hfresh.1
        simp only [idsInUse, List.mem_append, List.mem_map]
        exact .inl (.inl (.inl ⟨y, hy, hxy.symm⟩))
      · exact hsame x hx y hy hxy
  | remove i e he =>
    have hsub : List.Sublist (s.room.remove i).entries s.room.entries := List.eraseP_sublist
    exact ⟨hsub.length_le.trans hcap, h.ids.setRoom (hsub.map _).subperm rfl,
      fun x hx y hy hxy => hsame x (hsub.subset hx) y hy hxy⟩
  | move i e target he _ =>
    have hperm := RoomQueue.moveTo_perm he (s.room.moveTarget target)
    exact ⟨hperm.length_eq.trans_le hcap, h.ids.setRoom (hperm.map _).subperm rfl,
      fun x hx y hy hxy => hsame x (hperm.subset hx) y hy hxy⟩
  | promote i e he _ =>
    have hids := RoomQueue.promoteEntry_ids he
    have hperm := RoomQueue.promoteEntry_perm he
    have hlen : (s.room.promoteEntry e).entries.length = s.room.entries.length := by simpa using hids.length_eq
    refine ⟨hlen.trans_le hcap, h.ids.setRoom hids.subperm rfl, fun x hx y hy hxy => ?_⟩
    obtain rfl | hx := List.mem_cons.1 (hperm.subset hx)
    · exact hsame e (RoomQueue.find_mem he) y hy hxy
    · exact hsame x (List.mem_of_mem_eraseP hx) y hy hxy

theorem InStep.queued (h : s.InStep) (hq : s.Queued t) : t.InStep := by
  obtain rfl | ⟨q, ha, rfl⟩ := hq
  · exact h
  · obtain ⟨hcap, hids, hsongs⟩ := ha.coherent h.toCoherent
    exact inStep_queueEvent h.history h.deck h.staging h.posted hcap hids hsongs

/-! ## The account (R18 to R21) -/

theorem InStep.accountEvent (h : s.InStep) {q : RoomQueue} (he : q.entries = s.room.entries)
    (hl : q.lastId = s.room.lastId) : (s.accountEvent q).InStep := by
  have hq : (s.setRoom q).InStep := h.of_eq he hl
  obtain ha | ha := s.accountEvent_cases q <;> rw [ha]
  · exact hq
  · exact hq.reexamineEvent

theorem InStep.unlockRoom (h : s.InStep) : s.unlockRoom.InStep :=
  InStep.reexamineEvent (h.of_eq)

theorem InStep.leaveStandby (h : s.InStep) : s.leaveStandby.InStep :=
  InStep.reexamineEvent (h.of_eq)

/-! ## Stage records (R54 to R62) -/

theorem InStep.stageOpenEvent (h : s.InStep) (b : BankHeader) : (s.stageOpenEvent b).1.InStep := by
  obtain hr | ⟨hnone, hr⟩ := s.stageOpenEvent_cases b <;> rw [hr]
  · exact h
  · obtain ⟨hne, howner⟩ := SongStore.openRefusal_eq_none hnone
    have hst : (s.setStore (s.store.openLoad b)).StagingRule := by
      refine h.staging.setStore (by simp [SongStore.openLoad]) hne (by simp [SongStore.openLoad]) ?_
      exact ⟨b, by rw [SongStore.openLoad, SongStore.staging_with _ _ (s.store.setStaging _).owner,
        SongStore.staging_setStaging], by simp [SongStore.openLoad, howner]⟩
    exact Coherent.post ⟨h.capacity, h.history, h.deck, hst, h.ids.of_eq rfl rfl rfl rfl⟩

/-- A record stored in a bank that is being loaded leaves its header (R58, R60). -/
theorem InStep.storeInBank (h : s.InStep) (hl : s.store.state = .loading) {b : Bank}
    (hb : b.header = s.store.staging.header) : (s.setStore (s.store.setStaging b)).InStep := by
  have hbank : ∃ x, s.store.staging.header = some x ∧ some x.entryId = s.store.owner := by
    have := h.staging.bank
    simpa only [SongStore.BankAsState, hl] using this
  have hst : (s.setStore (s.store.setStaging b)).StagingRule := by
    refine h.staging.setStore (by simp) (by simp [hl]) (by simp [hl]) ?_
    simp only [SongStore.BankAsState, SongStore.setStaging_state, hl, SongStore.staging_setStaging, hb,
      SongStore.setStaging_owner]
    exact hbank
  exact ⟨⟨h.capacity, h.history, h.deck, hst, h.ids.of_eq rfl rfl rfl rfl⟩,
    h.posted.of_eq rfl (directiveNow_setStore (by simp) (by simp))⟩

theorem InStep.stageLineEvent (h : s.InStep) (l : LineFields) : (s.stageLineEvent l).1.InStep := by
  obtain hr | ⟨hl, part, hr⟩ := s.stageLineEvent_cases l <;> rw [hr]
  · exact h
  · exact h.storeInBank hl rfl

theorem InStep.stageNoteEvent (h : s.InStep) (n : NoteFields) : (s.stageNoteEvent n).1.InStep := by
  obtain hr | ⟨hl, part, hr⟩ := s.stageNoteEvent_cases n <;> rw [hr]
  · exact h
  · exact h.storeInBank hl rfl

theorem countsAgree_eq_true {b : Bank} {x : BankHeader} (hx : b.header = some x) (h : b.countsAgree = true) :
    b.counts = ⟨x.lines, x.syllables, x.glyphs, x.notes⟩ := by
  simpa [Bank.countsAgree, hx] using h

theorem InStep.stageCloseEvent (h : s.InStep) (i : Nat) : (s.stageCloseEvent i).1.InStep := by
  obtain hr | ⟨hl, hagree, hr⟩ | ⟨hl, hr⟩ := s.stageCloseEvent_cases i <;> rw [hr]
  · exact h
  · obtain ⟨x, hx, howner⟩ : ∃ x, s.store.staging.header = some x ∧ some x.entryId = s.store.owner := by
      have := h.staging.bank
      simpa only [SongStore.BankAsState, hl] using this
    have hst : (s.setStore { s.store with state := .ready }).StagingRule :=
      h.staging.setStore rfl (by simp [hl]) (by simp) ⟨x, hx, howner, countsAgree_eq_true hx hagree⟩
    have hready : (s.setStore { s.store with state := .ready }).Coherent :=
      ⟨h.capacity, h.history, h.deck, hst, h.ids.of_eq rfl rfl rfl rfl⟩
    exact hready.reexamine.post
  · have hst : (s.setStore { s.store.setStaging Bank.cleared with state := .requested }).StagingRule :=
      h.staging.setStore (by simp) (by simp [hl]) (by simp) (SongStore.staging_setStaging s.store Bank.cleared)
    exact ⟨⟨h.capacity, h.history, h.deck, hst, h.ids.of_eq rfl rfl rfl rfl⟩,
      h.posted.of_eq rfl (directiveNow_setStore (by simp) (by simp [hl]))⟩

theorem add_history_length (v : Results) (r : HistoryRecord) : (v.add r).history.length ≤ 16 := by
  simp only [Results.add, List.length_take]
  exact Nat.min_le_left _ _

/-- A record added brings one id into the history (R163). -/
theorem add_history_ids (v : Results) (r : HistoryRecord) :
    List.Sublist ((v.add r).history.map (·.id)) (r.id :: v.history.map (·.id)) :=
  (List.take_sublist 16 (({ r with finish := v.nextFinish } : HistoryRecord) :: v.history)).map HistoryRecord.id

theorem InStep.stageFailEvent (h : s.InStep) (i : Nat) : (s.stageFailEvent i).1.InStep := by
  obtain hr | ⟨e, he, hr⟩ := s.stageFailEvent_cases i <;> rw [hr]
  · exact h
  · obtain ⟨hcap, -, hsongs⟩ := (Alters.remove i e he).coherent h.toCoherent
    have hdir : (s.addRecord (ungradedRecord e .noStage)).directiveNow = s.directiveNow :=
      directiveNow_of_eq (by simp) (by simp) (by simp)
    refine inStep_queueEvent (by simpa using add_history_length _ _) (by simpa using h.deck)
      (h.staging.of_eq (by simp) (by simp)) (h.posted.of_eq (by simp) hdir) hcap ?_ (by simpa using hsongs)
    refine h.ids.of_subperm ?_ (fun hd => by simpa using hd) rfl
    have hperm := (RoomQueue.perm_entriesWithout he).map (·.id)
    have hhist := add_history_ids s.results (ungradedRecord e .noStage)
    have hsub : List.Sublist ((s.addRecord (ungradedRecord e .noStage)).setRoom (s.room.remove i)).carriedIds
        ((s.room.entriesWithout i).map (·.id) ++ (s.deck.current.toList.map (·.id)).filter (· != 0) ++
          (e.id :: s.results.history.map (·.id))) := by
      simpa [carriedIds, RoomQueue.remove, ungradedRecord] using hhist
    refine hsub.subperm.trans (List.Perm.subperm ?_)
    exact List.perm_middle.trans ((hperm.append_right _).append_right _).symm

/-! ## The end of a song (R68, R89 to R91) -/

/-- Finalisation moves the current entry's id to the record (R68, R89). -/
theorem finalise_carriedIds (o : SongOutcome) (m : Nat) {e : Entry} (he : s.deck.current = some e) (hne : e.id ≠ 0) :
    (s.finalise o m).carriedIds.Subperm s.carriedIds := by
  obtain ⟨r, hid, hr⟩ := s.finalise_history o m he
  have hsub : List.Sublist ((s.finalise o m).results.history.map (·.id)) (e.id :: s.results.history.map (·.id)) := by
    rw [hr, ← hid]
    exact (List.take_sublist 16 (r :: s.results.history)).map HistoryRecord.id
  have hs : s.carriedIds = s.room.entries.map (·.id) ++ (e.id :: s.results.history.map (·.id)) := by
    simp [carriedIds, he, hne]
  have ht : (s.finalise o m).carriedIds =
      s.room.entries.map (·.id) ++ (s.finalise o m).results.history.map (·.id) := by
    simp [carriedIds, he, Deck.finishEntry]
  rw [hs, ht]
  exact (hsub.append_left _).subperm

theorem finalise_history_length (h : s.results.history.length ≤ 16) (o : SongOutcome) (m : Nat) :
    (s.finalise o m).results.history.length ≤ 16 := by
  cases he : s.deck.current with
  | none => simpa [finalise, he] using h
  | some e =>
    obtain ⟨r, -, hr⟩ := s.finalise_history o m he
    rw [hr]
    simp

/-- The current entry that is being played carries an id in use (R4, R67). -/
theorem Coherent.current (h : s.Coherent) (hi : s.deck.state ≠ .idle) (hs : s.deck.state ≠ .stopping) :
    ∃ e, s.deck.current = some e ∧ e.id ≠ 0 := by
  obtain ⟨e, he, hid⟩ := h.deck.holds hi hs
  exact ⟨e, he, by have := (h.ids.stopId hi).1; omega⟩

theorem Coherent.endSong (h : s.Coherent) (hi : s.deck.state ≠ .idle) (hs : s.deck.state ≠ .stopping)
    (o : SongOutcome) : (s.endSong o).Coherent := by
  obtain ⟨e, he, hne⟩ := h.current hi hs
  unfold State.endSong
  refine ⟨by simpa using h.capacity, finalise_history_length (by exact h.history) _ _, ?_, h.staging.of_eq (by simp) (by simp), ?_⟩
  · rw [finalise_deck]
    exact h.deck.enterStopping_finishEntry (by simp [he]) _
  · refine h.ids.of_subperm (finalise_carriedIds (s := s.setDeck s.deck.enterStopping) o _ he hne) (fun _ => ⟨hi, ?_⟩)
      (by simp)
    rw [finalise_deck]
    rfl

/-- The return to IDLE: nothing is held any more (R68, R90). -/
theorem inStep_idleEvent (hcap : s.room.entries.length ≤ 32) (hhist : s.results.history.length ≤ 16)
    (hstaging : s.StagingRule) (honce : s.carriedIds.Nodup) (hrange : ∀ i ∈ s.carriedIds, 1 ≤ i ∧ i ≤ 250)
    (hlast : s.room.lastId ≤ 250) : s.idleEvent.InStep := by
  have hsub : List.Sublist (s.setDeck s.deck.toIdle).carriedIds s.carriedIds := by
    simp [carriedIds, Deck.toIdle, Deck.atReset]
  have hids : (s.setDeck s.deck.toIdle).IdRule :=
    ⟨hsub.nodup honce, fun i hi => hrange i (hsub.subset hi), fun hd => absurd rfl hd, hlast⟩
  have hidle : (s.setDeck s.deck.toIdle).Coherent :=
    ⟨hcap, hhist, Deck.atReset_rule, hstaging.of_eq rfl rfl, hids⟩
  exact hidle.reexamine.post

theorem InStep.idleEvent (h : s.InStep) : s.idleEvent.InStep :=
  inStep_idleEvent h.capacity h.history h.staging h.ids.once h.ids.range h.ids.last

/-! ## Marks, requests at the deck and ticks -/

theorem InStep.takeRun (h : s.InStep) {m : Nat} (hm : m ≤ 3599999) : (s.takeRun m).1.InStep := by
  obtain hr | ⟨hd, hr⟩ | ⟨hd, hr⟩ | ⟨hd, hr⟩ := s.takeRun_cases m <;> rw [hr]
  · exact h
  · have hmark : (s.setDeck (s.deck.firstMark m)).InStep :=
      h.setDeck (h.deck.firstMark hd hm) rfl rfl (by simp [Deck.firstMark, hd]) (by simp [Deck.firstMark, Deck.playOrder, hd])
    exact hmark.of_eq (by simp [RoomQueue.takeCredit]; split <;> rfl) (by simp [RoomQueue.takeCredit]; split <;> rfl)
  · have hmark : (s.setDeck (s.deck.runMark m)).InStep := by
      refine h.setDeck (h.deck.runMark hd hm) rfl rfl ?_ ?_ <;>
        obtain hd | hd := hd <;> simp [Deck.runMark, Deck.playOrder, hd]
    exact hmark.of_eq
  · exact h.setDeck (h.deck.pausedMark hd hm) rfl rfl Iff.rfl rfl

theorem InStep.takeEnd (h : s.InStep) (m : Nat) : (s.takeEnd m).1.InStep := by
  obtain hr | ⟨-, hr⟩ | ⟨hi, hs, marked, o, k, hr, hm⟩ := s.takeEnd_cases m <;> rw [hr]
  · exact h
  · exact h.idleEvent
  · obtain ⟨e, he, hne⟩ := h.toCoherent.current hi hs
    obtain ⟨hroom, hres, hstore, hcur⟩ : marked.room = s.room ∧ marked.results = s.results ∧ marked.store = s.store ∧
        marked.deck.current = s.deck.current := by
      obtain rfl | rfl | rfl := hm <;> simp [Deck.runMark, Deck.pausedMark, Deck.disarm]
    have hc : marked.carriedIds = s.carriedIds := by unfold carriedIds; rw [hroom, hres, hcur]
    have hsub := hc ▸ finalise_carriedIds o k (hcur.trans he) hne
    exact inStep_idleEvent (by simpa [hroom] using h.capacity) (finalise_history_length (by rw [hres]; exact h.history) o k)
      (h.staging.of_eq (by simpa using hstore) (by simp [hroom])) (nodup_of_subperm hsub h.ids.once)
      (fun i hi => h.ids.range i (hsub.subset hi)) (by simpa [hroom] using h.ids.last)

theorem InStep.takeMark (h : s.InStep) (i m : Nat) (k : Byte) : (s.takeMark i m k).1.InStep := by
  obtain hr | ⟨hm, hr | hr⟩ := s.takeMark_cases i m k <;> rw [hr]
  · exact h
  · exact h.takeRun hm
  · exact h.takeEnd m

theorem InStep.holdEvent (h : s.InStep) : s.holdEvent.1.InStep := by
  obtain hr | ⟨hd, hr⟩ := s.holdEvent_cases <;> rw [hr]
  · exact h
  · exact (h.toCoherent.setDeck (h.deck.holdNow hd) rfl rfl (fun _ => by obtain hd | hd := hd <;> simp [hd])).post

theorem InStep.goEvent (h : s.InStep) : s.goEvent.1.InStep := by
  obtain hr | ⟨hd, hr⟩ := s.goEvent_cases <;> rw [hr]
  · exact h
  · have hgo : (s.setDeck s.deck.goNow).Coherent := h.toCoherent.setDeck (h.deck.goNow hd) rfl rfl (fun _ => by simp [hd])
    exact Coherent.post hgo.of_eq

theorem InStep.keyEvent (h : s.InStep) (delta : Int) : (s.keyEvent delta).1.InStep := by
  obtain hr | ⟨hd, hr⟩ := s.keyEvent_cases delta <;> rw [hr]
  · exact h
  · refine (h.toCoherent.setDeck (h.deck.changeKey hd _) rfl ?_ (fun hn => hn)).post
    cases hc : s.deck.current <;> simp [Deck.changeKey, hc]

theorem InStep.skipEvent (h : s.InStep) (i : Nat) : (s.skipEvent i).1.InStep := by
  obtain hr | ⟨hi, hs, hr⟩ := s.skipEvent_cases i <;> rw [hr]
  · exact h
  · exact (h.toCoherent.endSong hi hs _).post

theorem InStep.stopSongEvent (h : s.InStep) : s.stopSongEvent.1.InStep := by
  obtain hr | ⟨hi, hs, hr⟩ := s.stopSongEvent_cases <;> rw [hr]
  · exact h
  · exact (h.toCoherent.endSong hi hs _).post

theorem InStep.stallExpiry (h : s.InStep) (hd : s.deck.stallDue = true) : (stallExpiry s).InStep := by
  have hp : s.deck.state = .playing := by
    simp only [Deck.stallDue, Bool.and_eq_true, beq_iff_eq] at hd
    exact hd.1
  have hstall : (s.setDeck s.deck.stall).InStep :=
    h.setDeck (h.deck.stall hp) rfl rfl (by simp [Deck.stall, hp]) (by simp [Deck.stall, Deck.playOrder, hp])
  have hraised : ((s.setDeck s.deck.stall).raise .stall).InStep := hstall.of_eq
  exact hraised

theorem InStep.tickDeck (h : s.InStep) : (tickDeck s).InStep := by
  obtain ⟨hd, hr⟩ | ⟨hd, hdue, hr⟩ | ⟨hd, hr⟩ := s.tickDeck_cases <;> rw [hr]
  · exact h.setDeck (h.deck.tick_of_not_playing hd) rfl rfl Iff.rfl rfl
  · have htick : (s.setDeck s.deck.tick).InStep := h.setDeck (h.deck.tick_of_playing hd hdue) rfl rfl Iff.rfl rfl
    exact htick.of_eq
  · have hstall : (s.setDeck s.deck.tick.stall).InStep :=
      h.setDeck (h.deck.tick_stall hd) rfl rfl (by simp [Deck.stall, hd]) (by simp [Deck.stall, Deck.playOrder, hd])
    exact hstall.of_eq (by simp [Machine.stallExpiry]) (by simp [Machine.stallExpiry]) (by simp [Machine.stallExpiry])
      (by simp [Machine.stallExpiry]) (by simp [Machine.stallExpiry]) (by simp [Machine.stallExpiry])

/-! ## ROOM CLEAR and reset (R23, R198, R202) -/

/-- The deck's part of ROOM CLEAR leaves the deck in its table, and carries no id that it did not carry. -/
theorem clearDeck_deck (h : s.deck.Rule) : s.clearDeck.deck.Rule ∧ s.clearDeck.deck.stopId = s.deck.stopId ∧
    (s.clearDeck.deck.state ≠ .idle → s.deck.state ≠ .idle) ∧
    List.Sublist ((s.clearDeck.deck.current.toList.map (·.id)).filter (· != 0))
      ((s.deck.current.toList.map (·.id)).filter (· != 0)) := by
  obtain ⟨-, hr⟩ | ⟨hd, hr⟩ | ⟨hi, hs, hr⟩ := s.clearDeck_cases <;> rw [hr]
  · exact ⟨h, rfl, id, .refl _⟩
  · exact ⟨h.forgetReached hd, rfl, id, .refl _⟩
  · obtain ⟨e, he, -⟩ := h.holds hi hs
    refine ⟨h.enterStopping_finishEntry (by simp [he]) false, rfl, fun _ => hi, ?_⟩
    simp [Deck.finishEntry, Deck.enterStopping, Deck.freeze, Deck.disarm, he]

theorem InStep.roomClearEvent (h : s.InStep) : s.roomClearEvent.InStep := by
  unfold State.roomClearEvent
  dsimp only
  generalize hq : ((s.setRoom s.room.cleared).raise .queueChanged).setStore
    (((s.setRoom s.room.cleared).raise .queueChanged).store.nameHead none) = u
  have hdeck : u.deck = s.deck := by rw [← hq]; simp
  obtain ⟨hrule, hstop, hidle, hsub⟩ := clearDeck_deck (s := u) (by rw [hdeck]; exact h.deck)
  have hroom : u.room = s.room.cleared := by rw [← hq]; simp
  have hstore : u.store = s.store.nameHead none := by rw [← hq]; simp
  rw [hdeck] at hstop hidle hsub
  refine Coherent.post ⟨by simp [hroom, RoomQueue.cleared], by simp [Results.cleared], by simpa using hrule, ?_, ?_⟩
  · exact stagingRule_of_told (by simpa [hstore] using SongStore.nameHead_staging h.staging.bank none)
      (by simp [hstore, hroom, SongStore.nameHead_state, RoomQueue.cleared, RoomQueue.headId])
      (by simp [hstore, hroom, RoomQueue.cleared, RoomQueue.headId])
  · refine h.ids.of_subperm (List.Sublist.subperm ?_) (fun hd => ⟨hidle (by simpa using hd), by simpa using hstop⟩)
      (by simp [hroom, RoomQueue.cleared])
    have hempty : List.Sublist ([] : List Nat) (s.room.entries.map (·.id)) := List.nil_sublist _
    have hall := (hempty.append hsub).append (List.nil_sublist (s.results.history.map (·.id)))
    simpa [carriedIds, hroom, RoomQueue.cleared, Results.cleared] using hall

theorem afterReset_inStep (pins : BitVec 2) (s : State) : (afterReset pins s).InStep := by
  refine ⟨⟨by simp [afterReset, State.reset, RoomQueue.atReset], by simp [afterReset, State.reset, Results.atReset],
    Deck.atReset_rule, ⟨rfl, ?_, rfl⟩, ⟨?_, ?_, fun hd => absurd rfl hd, ?_⟩⟩, rfl⟩
  · simp [afterReset, State.reset, RoomQueue.atReset, SongStore.atReset]
  all_goals
    simp [carriedIds, afterReset, State.reset, RoomQueue.atReset, Deck.atReset, Results.atReset]

end Sys2Proof.Machine.State
end

section
/-! # Every step keeps the controller in step -/

namespace Sys2Proof.Machine

open State

/-- The configuration set changes no id, no deck, no staging and no directive (R194). -/
theorem configure_inStep {s : State} (h : s.InStep) (item : ConfigItem) (v : Nat) : (configure s item v).InStep := by
  cases item
  case baud =>
    unfold Machine.configure setBaud setSettings
    dsimp only
    split
    · exact h.of_eq
    · exact h.of_eq
  all_goals exact h.of_eq rfl rfl rfl rfl rfl rfl

/-- Every event keeps the ids, staging, the deck's table and the posted directive. -/
theorem inStep_kept : Kept InStep where
  raise _ _ h := h.of_eq
  panel _ _ _ h := h.of_eq
  port _ _ hv h := h.of_eq rfl rfl rfl rfl rfl hv
  desk _ _ _ _ _ h := h.of_eq
  frontTick _ h := h.of_eq
  settled _ _ h := h.of_eq
  conversion _ _ _ _ h := h.of_eq
  edge _ _ _ _ h := h.of_eq
  resetUnit _ _ h := h.of_eq
  leaveStandby _ _ h := h.leaveStandby
  standby _ h := h.of_eq
  submit _ _ _ _ h := h.queued (submit_queued _ _ _ _)
  cancel _ _ _ h := h.queued (cancel_queued _ _ _)
  panelMove _ _ _ _ h := h.queued (panelMove_queued _ _ _ _)
  deskMove _ _ _ h := h.queued (deskMove_queued _ _ _)
  promote _ _ h := h.queued (promoteId_queued _ _)
  remove _ _ h := h.queued (removeId_queued _ _)
  addCredits _ _ h := h.accountEvent rfl rfl
  setUnlimited _ _ h := h.accountEvent rfl rfl
  lock _ h := h.of_eq rfl rfl
  unlock _ h := h.unlockRoom
  configure _ _ _ h := configure_inStep h _ _
  newSession s h := by
    have hsub : List.Sublist (s.setResults Results.newSession).carriedIds s.carriedIds := by
      simp [carriedIds, Results.newSession]
    exact ⟨⟨h.capacity, by simp [Results.newSession], h.deck, h.staging.of_eq rfl rfl,
      h.ids.of_subperm hsub.subperm (fun hd => ⟨hd, rfl⟩) rfl⟩, h.posted⟩
  stageOpen _ _ h := h.stageOpenEvent _
  stageLine _ _ h := h.stageLineEvent _
  stageNote _ _ h := h.stageNoteEvent _
  stageClose _ _ h := h.stageCloseEvent _
  stageFail _ _ h := h.stageFailEvent _
  hold _ h := h.holdEvent
  go _ h := h.goEvent
  key _ _ h := h.keyEvent _
  skip _ _ h := h.skipEvent _
  stopSong _ h := h.stopSongEvent
  tick _ h := h.tickDeck
  stall _ hd h := h.stallExpiry hd
  startExpiry _ hd h := (h.toCoherent.endSong (by simp [hd]) (by simp [hd]) _).post
  limitExpiry _ hd h := Coherent.post ((h.toCoherent.endSong (by simp [hd]) (by simp [hd]) .mediaLost).of_eq)
  stopExpiry _ _ h := h.idleEvent
  lyricTake _ _ _ _ h := h.of_eq
  graderTake _ _ _ _ h := h.of_eq
  scene _ h := h.of_eq (by simp [sceneLyric]) (by simp [sceneLyric]) (by simp [sceneLyric]) (by simp [sceneLyric])
    (by simp [sceneLyric]) (by simp [sceneLyric])
  lyricNewSong _ h := h.of_eq
  lyricDropSong _ h := h.of_eq
  graderNewSong _ h := h.of_eq
  finalScores _ _ h := h.of_eq
  songEnded _ h := h.of_eq
  discard _ h := h.of_eq
  sample _ _ _ h := h.of_eq
  queue _ _ h := h.of_eq
  flags _ _ _ _ h := h.of_eq
  afterReset s pins _ := afterReset_inStep pins s
  setCredits _ _ h := h.accountEvent rfl rfl
  roomClear _ h := h.roomClearEvent
  mark _ _ _ _ h := h.takeMark _ _ _

/-- Settles O57: the six rules are `InStep`, which every event of the blocks keeps. -/
theorem stepKeepsIdsStagingAndDirective : Obligations.StepKeepsIdsStagingAndDirective := by
  rintro s t ⟨hcap, hhist, hdeck, hstaging, hids, hposted⟩ hstep
  have ht : t.InStep := inStep_kept.step ⟨⟨hcap, hhist, hdeck, hstaging, hids⟩, hposted⟩ hstep
  exact ⟨ht.capacity, ht.history, ht.deck, ht.staging, ht.ids, ht.posted⟩

end Sys2Proof.Machine
end

section
/-! # The queue and the account keep their rules (R1 to R3, R6, R11, R12, R18, R22) -/

namespace Sys2Proof.Machine

/-- Every priority entry stands ahead of every normal entry (R1). -/
def PriorityFirst (l : List Entry) : Prop := l.Pairwise fun x y => y.priority = true → x.priority = true

/-- Ordered entries are the priority entries, as many as there are, and then the normal ones (R1). -/
theorem PriorityFirst.split {l : List Entry} (h : PriorityFirst l) :
    (∀ x ∈ l.take (l.countP (·.priority)), x.priority = true) ∧
    (∀ x ∈ l.drop (l.countP (·.priority)), x.priority = false) := by
  induction l with
  | nil => simp
  | cons x l ih =>
    obtain ⟨hx, hl⟩ := List.pairwise_cons.1 h
    cases hp : x.priority with
    | true => simpa [hp] using ih hl
    | false =>
      have hnone : ∀ y ∈ l, y.priority = false := fun y hy => by
        by_contra hy'
        simp [hx y hy (by simpa using hy')] at hp
      have hc : l.countP (·.priority) = 0 := List.countP_eq_zero.2 fun y hy => by simp [hnone y hy]
      simpa [hp, hc] using hnone

/-- A priority entry put in directly after the last priority entry (R6, R12). -/
theorem PriorityFirst.insertAfter_priority {l : List Entry} (h : PriorityFirst l) {x : Entry} (hx : x.priority = true) :
    PriorityFirst (insertAfter l (l.countP (·.priority)) x) := by
  obtain ⟨htake, hdrop⟩ := h.split
  refine List.pairwise_append.2 ⟨h.sublist (List.take_sublist _ _), List.pairwise_cons.2 ⟨fun _ _ _ => hx,
    h.sublist (List.drop_sublist _ _)⟩, fun y hy _ _ _ => htake y hy⟩

/-- A normal entry put in behind every priority entry (R6, R11). -/
theorem PriorityFirst.insertAfter_normal {l : List Entry} (h : PriorityFirst l) {x : Entry} (hx : x.priority = false)
    {i : Nat} (hi : l.countP (·.priority) ≤ i) : PriorityFirst (insertAfter l i x) := by
  have hdrop : ∀ y ∈ l.drop i, y.priority = false := fun y hy => h.split.2 y (by
    rw [← Nat.add_sub_cancel' hi, ← List.drop_drop] at hy
    exact List.mem_of_mem_drop hy)
  refine List.pairwise_append.2 ⟨h.sublist (List.take_sublist _ _), List.pairwise_cons.2 ⟨fun y hy hp => ?_,
    h.sublist (List.drop_sublist _ _)⟩, fun y hy z hz hp => ?_⟩
  · simp [hdrop y hy] at hp
  · obtain rfl | hz := List.mem_cons.1 hz
    · simp [hx] at hp
    · simp [hdrop z hz] at hp

namespace RoomQueue

variable {q : RoomQueue} {e : Entry} {i : Nat}

/-- The queue without a normal entry has the same priority entries. -/
theorem countP_entriesWithout (h : q.find i = some e) (hp : e.priority = false) :
    (q.entriesWithout i).countP (·.priority) = q.priorityCount := by
  rw [priorityCount, (perm_entriesWithout h).countP_eq]
  simp [hp]

/-- A queue with a normal entry has fewer priority entries than entries. -/
theorem priorityCount_lt (he : e ∈ q.entries) (hp : e.priority = false) : q.priorityCount < q.entries.length := by
  refine lt_of_le_of_ne List.countP_le_length fun heq => ?_
  simp [List.countP_eq_length.1 heq e he] at hp

/-- With a normal entry in the queue, the clamped target of a move is behind the priority entries (R11). -/
theorem priorityCount_lt_moveTarget (he : e ∈ q.entries) (hp : e.priority = false) (target : Nat) :
    q.priorityCount < q.moveTarget target := by
  have hlt := priorityCount_lt he hp
  unfold moveTarget clamp
  omega

/-- A change of the queue that keeps the order rule, the size, the fields and the account keeps the whole rule. -/
theorem Rule.of_entries (h : q.Rule) {r : RoomQueue} (hcap : r.entries.length ≤ 32) (hfirst : PriorityFirst r.entries)
    (hfields : ∀ e ∈ r.entries, e.InRange) (harrivals : r.arrivals ≤ 65535) (hcredits : r.credits = q.credits)
    (hquota : r.quota = q.quota) : r.Rule :=
  ⟨hcap, hfirst, hfields, harrivals, hcredits ▸ h.credits, hquota ▸ h.quota⟩

theorem Rule.remove (h : q.Rule) (i : Nat) : (q.remove i).Rule := by
  have hsub : List.Sublist (q.remove i).entries q.entries := List.eraseP_sublist
  exact h.of_entries (hsub.length_le.trans h.capacity) (h.priorityFirst.sublist hsub)
    (fun e he => h.fields e (hsub.subset he)) h.arrivals rfl rfl

theorem Rule.tail (h : q.Rule) {rest : List Entry} (he : q.entries = e :: rest) (b : Bool) :
    { q with entries := rest, shortage := b }.Rule := by
  have hsub : List.Sublist rest q.entries := he ▸ List.sublist_cons_self e rest
  exact h.of_entries (hsub.length_le.trans h.capacity) (h.priorityFirst.sublist hsub)
    (fun e he => h.fields e (hsub.subset he)) h.arrivals rfl rfl

theorem Rule.moveTo (h : q.Rule) (he : q.find i = some e) (hp : e.priority = false) (target : Nat) :
    (q.moveTo e (q.moveTarget target)).Rule := by
  have hperm := moveTo_perm he (q.moveTarget target)
  refine h.of_entries (hperm.length_eq.trans_le h.capacity) ?_ (fun x hx => h.fields x (hperm.subset hx)) h.arrivals
    rfl rfl
  have hlt := priorityCount_lt_moveTarget (find_mem he) hp target
  have hwithout : PriorityFirst (q.entriesWithout e.id) := h.priorityFirst.sublist List.eraseP_sublist
  refine hwithout.insertAfter_normal hp ?_
  rw [find_id he, countP_entriesWithout he hp]
  omega

theorem Rule.promoteEntry (h : q.Rule) (he : q.find i = some e) (hp : e.priority = false) :
    (q.promoteEntry e).Rule := by
  have hperm := promoteEntry_perm he
  have hlen : (q.promoteEntry e).entries.length = q.entries.length := by simpa using (promoteEntry_ids he).length_eq
  refine h.of_entries (hlen.trans_le h.capacity) ?_ (fun x hx => ?_) h.arrivals rfl rfl
  · have hwithout : PriorityFirst (q.entriesWithout e.id) := h.priorityFirst.sublist List.eraseP_sublist
    have hcount := countP_entriesWithout he hp
    rw [← find_id he] at hcount
    have hins := hwithout.insertAfter_priority (x := { e with priority := true }) rfl
    rwa [hcount] at hins
  · obtain rfl | hx := List.mem_cons.1 (hperm.subset hx)
    · have hr := h.fields e (find_mem he)
      exact ⟨hr.song, hr.singer, hr.key, hr.arrival⟩
    · exact h.fields x (List.mem_of_mem_eraseP hx)

theorem nextArrival_range (n : Nat) : 1 ≤ nextArrival n ∧ nextArrival n ≤ 65535 := by
  unfold nextArrival
  split <;> omega

theorem clampKey_range (v : Int) : -6 ≤ clampKey v ∧ clampKey v ≤ 6 := by
  unfold clampKey
  omega

/-- The entry that an accepted submission makes has its fields in range (R2, R3). -/
theorem newEntry_inRange (q : RoomQueue) (used : List Nat) (o : Origin) (priority : Bool) {r : SongRequest}
    (mode : MicMode) (h1 : 1 ≤ r.song) (h2 : r.song ≤ 999999) : (q.newEntry used o priority r mode).InRange :=
  ⟨⟨h1, h2⟩, Nat.min_le_right _ _, clampKey_range _, nextArrival_range _⟩

theorem Rule.enrol (h : q.Rule) (hlt : q.entries.length < 32) (used : List Nat) (o : Origin) (priority : Bool)
    {r : SongRequest} (mode : MicMode) (h1 : 1 ≤ r.song) (h2 : r.song ≤ 999999) :
    (q.enrol (q.newEntry used o priority r mode) (q.placeBehind priority)).Rule := by
  have hperm := insertAfter_perm q.entries (q.placeBehind priority) (q.newEntry used o priority r mode)
  refine h.of_entries (hperm.length_eq.trans_le (by rw [List.length_cons]; omega)) ?_ (fun x hx => ?_)
    (nextArrival_range q.arrivals).2 rfl rfl
  · cases priority with
    | true => exact PriorityFirst.insertAfter_priority h.priorityFirst rfl
    | false => exact PriorityFirst.insertAfter_normal h.priorityFirst rfl List.countP_le_length
  · obtain rfl | hx := List.mem_cons.1 (hperm.subset hx)
    · exact newEntry_inRange q used o priority mode h1 h2
    · exact h.fields x hx

/-- An account whose entries stand and whose credits are in range. -/
theorem Rule.of_account (h : q.Rule) {r : RoomQueue} (hentries : r.entries = q.entries) (harrivals : r.arrivals = q.arrivals)
    (hcredits : r.credits ≤ 999) (hquota : r.quota ≤ 32) : r.Rule :=
  ⟨hentries ▸ h.capacity, by rw [hentries]; exact h.priorityFirst, by rw [hentries]; exact h.fields,
    harrivals ▸ h.arrivals, hcredits, hquota⟩

theorem Rule.takeCredit (h : q.Rule) : q.takeCredit.Rule := by
  have hc := h.credits
  unfold RoomQueue.takeCredit
  split
  · exact h.of_account rfl rfl (by simp; omega) h.quota
  · exact h

theorem Rule.setCredits (h : q.Rule) (v : Nat) : (q.setCredits v).Rule :=
  h.of_account rfl rfl (Nat.min_le_right _ _) h.quota

theorem Rule.addCredits (h : q.Rule) (v : Nat) : (q.addCredits v).Rule :=
  h.of_account rfl rfl (Nat.min_le_right _ _) h.quota

theorem Rule.setUnlimited (h : q.Rule) (b : Bool) : (q.setUnlimited b).Rule := h.of_account rfl rfl h.credits h.quota

theorem Rule.cleared (h : q.Rule) : q.cleared.Rule :=
  ⟨by simp [RoomQueue.cleared], List.Pairwise.nil, by simp [RoomQueue.cleared], h.arrivals,
    by simp [RoomQueue.cleared], h.quota⟩

theorem atReset_rule : RoomQueue.atReset.Rule := by
  constructor <;> simp [RoomQueue.atReset]

end RoomQueue

/-- An accepted request keeps the queue's rule. -/
theorem State.Alters.rule {s : State} {q : RoomQueue} (ha : s.Alters q) (h : s.room.Rule) : q.Rule := by
  cases ha with
  | enrol o priority r mode hlt h1 h2 => exact h.enrol hlt _ o priority mode h1 h2
  | remove i e he => exact h.remove i
  | move i e target he hp => exact h.moveTo he hp target
  | promote i e he hp => exact h.promoteEntry he hp

end Sys2Proof.Machine
end

section
/-! # The lyric sequencer and the microphone front end keep their rules (R94, R102, R122, R128, R135, R136) -/

namespace Sys2Proof.Machine

namespace Sequencer

/-- The window's rule, with the settings in their ranges (R94, R95). -/
structure Windowed (q : Sequencer) : Prop where
  rule : q.Rule
  settings : q.settings.Rule

variable {q r : Sequencer}

/-- The rule reads the window, the cursor, the settings and the count of forced exits alone. -/
theorem Windowed.of_eq (h : q.Windowed) (hw : r.window = q.window) (hc : r.cursor = q.cursor)
    (hs : r.settings = q.settings) (hf : r.forced = q.forced) : r.Windowed := by
  refine ⟨⟨?_, ?_, ?_, ?_⟩, hs ▸ h.settings⟩
  · rw [hw, hs]; exact h.rule.fits
  · rw [hw, hc]; exact h.rule.behind
  · rw [hw, hc]; exact h.rule.consecutive
  · rw [hf]; exact h.rule.forced

/-- An empty window, wherever the cursor stands. -/
theorem windowed_of_nil (hw : q.window = []) (hs : q.settings.Rule) (hf : q.forced ≤ 65535) : q.Windowed :=
  ⟨⟨by simp [hw], by simp [hw], by simp [hw], hf⟩, hs⟩

theorem Windowed.enterRow (h : q.Windowed) (hfree : q.window.length < q.settings.rows) : q.enterRow.Windowed := by
  have hb := h.rule.behind
  refine ⟨⟨by simpa [Sequencer.enterRow] using hfree, by simpa [Sequencer.enterRow] using hb, ?_, h.rule.forced⟩,
    h.settings⟩
  have hwin : q.window ++ [q.cursor] = List.range' (q.cursor - q.window.length) (q.window.length + 1) := by
    rw [List.range'_concat, ← h.rule.consecutive]
    simp [Nat.sub_add_cancel hb]
  simpa [Sequencer.enterRow] using hwin

theorem Windowed.exitRow (h : q.Windowed) {first : Nat} {rest : List Nat} (hw : q.window = first :: rest) (t : Nat) :
    (q.exitRow t first rest).Windowed := by
  have hb := h.rule.behind
  have hfits := h.rule.fits
  have hc := h.rule.consecutive
  rw [hw, List.length_cons] at hb hfits hc
  refine ⟨⟨by simpa [Sequencer.exitRow] using hfits, by simp [Sequencer.exitRow]; omega, ?_, h.rule.forced⟩, h.settings⟩
  rw [List.range'_succ, List.cons.injEq] at hc
  have hwin : rest ++ [q.cursor] = List.range' (q.cursor - rest.length) (rest.length + 1) := by
    rw [List.range'_concat, Nat.one_mul, Nat.sub_add_cancel (by omega),
      show q.cursor - rest.length = q.cursor - (rest.length + 1) + 1 by omega, ← hc.2]
  simpa [Sequencer.exitRow] using hwin

theorem Windowed.countForced (h : q.Windowed) : q.countForced.Windowed :=
  ⟨⟨h.rule.fits, h.rule.behind, h.rule.consecutive, Nat.min_le_right _ _⟩, h.settings⟩

theorem Windowed.moveWindow (b : Bank) (t : Nat) : ∀ (tries : Nat) {q : Sequencer}, q.Windowed →
    (q.moveWindow b t tries).Windowed := by
  intro tries
  induction tries with
  | zero => intro q h; exact h
  | succ tries ih =>
    intro q h
    unfold Sequencer.moveWindow
    split
    · exact h
    split
    · next hfree =>
      split
      · exact ih (h.enterRow hfree)
      · exact h
    split
    · exact h
    · next hw =>
      split
      · exact ih (h.exitRow hw t)
      split
      · exact ih (h.exitRow hw t).countForced
      · exact h

theorem Windowed.fillWindow (b : Bank) (t : Nat) : ∀ (tries : Nat) {q : Sequencer}, q.Windowed →
    (q.fillWindow b t tries).Windowed := by
  intro tries
  induction tries with
  | zero => intro q h; exact h
  | succ tries ih =>
    intro q h
    unfold Sequencer.fillWindow
    split
    · exact h
    split
    · next hfree =>
      simp only [Bool.and_eq_true, decide_eq_true_eq] at hfree
      exact ih (h.enterRow hfree.1)
    · exact h

theorem Windowed.searchCountdown (b : Bank) (t : Nat) : ∀ (tries : Nat) {q : Sequencer}, q.Windowed →
    (q.searchCountdown b t tries).Windowed := by
  intro tries
  induction tries with
  | zero => intro q h; exact h
  | succ tries ih =>
    intro q h
    unfold Sequencer.searchCountdown
    split
    · exact h
    split
    · exact ih (h.of_eq rfl rfl rfl rfl)
    split
    · exact h.of_eq rfl rfl rfl rfl
    · exact h

theorem Windowed.beginCountdown (h : q.Windowed) (b : Bank) (t : Nat) : (q.beginCountdown b t).Windowed := by
  unfold Sequencer.beginCountdown
  split
  · exact h
  · exact h.searchCountdown b t _

theorem Windowed.endScroll (h : q.Windowed) (t : Nat) : (q.endScroll t).Windowed := by
  unfold Sequencer.endScroll
  split
  · exact h
  split
  · exact h.of_eq rfl rfl rfl rfl
  · exact h

theorem Windowed.endCountdown (h : q.Windowed) (b : Bank) (t : Nat) : (q.endCountdown b t).Windowed := by
  unfold Sequencer.endCountdown
  split
  · exact h
  split
  · exact h.of_eq rfl rfl rfl rfl
  split
  · exact h.of_eq rfl rfl rfl rfl
  · exact h

theorem Windowed.step (h : q.Windowed) (b : Bank) (t : Nat) : (q.step b t).Windowed :=
  (((h.endScroll t).endCountdown b t).moveWindow b t _).beginCountdown b t

theorem Windowed.rebuild (h : q.Windowed) (b : Bank) (t : Nat) : (q.rebuild b t).Windowed := by
  unfold Sequencer.rebuild
  refine Windowed.beginCountdown ?_ b t
  refine Windowed.of_eq (Windowed.fillWindow b t b.lyrics.length ?_) rfl rfl rfl rfl
  exact windowed_of_nil rfl h.settings h.rule.forced

theorem Windowed.take (h : q.Windowed) (b : Bank) (a : Advance) : (q.take b a).Windowed := by
  unfold Sequencer.take
  split
  · exact h.step b a.time
  · exact h.rebuild b a.time
  · exact h.rebuild b a.time

theorem Windowed.takeAll (h : q.Windowed) (b : Bank) : (q.takeAll b).Windowed := by
  have hfold : ∀ (l : List Advance) {r : Sequencer}, r.Windowed → (l.foldl (fun r a => r.take b a) r).Windowed := by
    intro l
    induction l with
    | nil => intro r hr; exact hr
    | cons a l ih => intro r hr; exact ih (hr.take b a)
  exact hfold q.inbox (h.of_eq rfl rfl rfl rfl)

theorem Windowed.withInbox (h : q.Windowed) (l : List Advance) : { q with inbox := l }.Windowed :=
  h.of_eq rfl rfl rfl rfl

theorem Windowed.newSong (h : q.Windowed) {c : LyricSettings} (hc : c.Rule) : (q.newSong c).Windowed :=
  windowed_of_nil rfl hc h.rule.forced

theorem Windowed.dropSong (h : q.Windowed) : q.dropSong.Windowed := windowed_of_nil rfl h.settings h.rule.forced

end Sequencer

/-! ## The microphones (R122, R125, R128 to R131) -/

namespace MicState

variable {m : MicState}

theorem closed_rule : MicState.closed.Rule := by
  constructor <;> simp [MicState.closed]

theorem Rule.takeValue (h : m.Rule) (openAt closeBelow v : Nat) : (m.takeValue openAt closeBelow v).Rule := by
  unfold MicState.takeValue
  split
  · next hopen =>
    split
    · split
      · exact closed_rule
      · exact ⟨h.openRun, by simp only; omega, h.counter, h.stopped, h.noInterval, h.interval⟩
    · exact ⟨h.openRun, Nat.zero_le _, h.counter, h.stopped, h.noInterval, h.interval⟩
  · next hclosed =>
    split
    · split
      · exact ⟨Nat.zero_le _, Nat.zero_le _, h.counter, h.stopped, by simp, h.interval⟩
      · exact ⟨by simp only; omega, h.closeRun, h.counter, h.stopped, h.noInterval, h.interval⟩
    · exact ⟨Nat.zero_le _, h.closeRun, h.counter, h.stopped, h.noInterval, h.interval⟩

theorem Rule.runCounter (h : m.Rule) (counts : Nat) : (m.runCounter counts).Rule := by
  unfold MicState.runCounter
  split
  · next hl => exact ⟨h.openRun, h.closeRun, Nat.min_le_right _ _, by simp [hl], h.noInterval, h.interval⟩
  · exact h

theorem Rule.handleEdge (h : m.Rule) : m.handleEdge.1.Rule := by
  unfold MicState.handleEdge
  split
  · exact ⟨h.openRun, h.closeRun, Nat.zero_le _, fun _ => rfl, h.noInterval, h.interval⟩
  split
  · exact h
  split
  · next hopen =>
    refine ⟨h.openRun, h.closeRun, Nat.zero_le _, fun _ => rfl, by simp [hopen], fun q hq => ?_⟩
    simp only [intervalValid, Option.ite_none_right_eq_some, decide_eq_true_eq, Option.some.injEq] at hq
    omega
  · exact ⟨h.openRun, h.closeRun, Nat.zero_le _, fun _ => rfl, h.noInterval, h.interval⟩

theorem Rule.takeEdge (h : m.Rule) (counts : Nat) : (m.takeEdge counts).1.Rule := (h.runCounter counts).handleEdge

end MicState

/-! ## The front end (R122, R123, R135, R136) -/

namespace FrontEnd

variable {f : FrontEnd}

theorem atReset_rule : FrontEnd.atReset.Rule := by
  constructor <;> simp [FrontEnd.atReset, MicState.closed_rule]

theorem Rule.mic (h : f.Rule) (m : Mic) : (f.mic m).Rule := by
  cases m
  · exact h.micA
  · exact h.micB

/-- While activity is ON, the microphones may hold anything that keeps their rules. -/
theorem Rule.of_on (h : f.Rule) (ha : f.activity = .on) {g : FrontEnd} (hg : g.activity = .on)
    (ht : g.settleTimer = f.settleTimer) (hA : g.micA.Rule) (hB : g.micB.Rule) : g.Rule where
  micA := hA
  micB := hB
  settle := by rw [ht, hg, ← ha]; exact h.settle
  settleTime := ht ▸ h.settleTime
  quiet := fun hn => absurd hg hn

theorem Rule.setMic (h : f.Rule) (ha : f.activity = .on) (m : Mic) {v : MicState} (hv : v.Rule) :
    (f.setMic m v).Rule := by
  cases m
  · exact h.of_on ha ha rfl hv h.micB
  · exact h.of_on ha ha rfl h.micA hv

/-- A conversion in flight is one of a front end that is ON (R123, R135). -/
theorem Rule.on_of_conversion (h : f.Rule) {m : Mic} (hm : f.conversion = some m) : f.activity = .on := by
  by_contra ha
  simp [(h.quiet ha).1] at hm

theorem Rule.complete (h : f.Rule) (openAt closeBelow v : Nat) : (f.complete openAt closeBelow v).Rule := by
  unfold FrontEnd.complete
  split
  · exact h
  · next hm => exact h.of_on (h.on_of_conversion hm) (h.on_of_conversion hm) rfl (h.micA.takeValue _ _ _) h.micB
  · next hm => exact h.of_on (h.on_of_conversion hm) (h.on_of_conversion hm) rfl h.micA (h.micB.takeValue _ _ _)

theorem complete_activity (openAt closeBelow v : Nat) (f : FrontEnd) :
    (f.complete openAt closeBelow v).activity = f.activity := by
  unfold FrontEnd.complete
  split <;> rfl

@[simp] theorem setMic_activity (f : FrontEnd) (m : Mic) (v : MicState) : (f.setMic m v).activity = f.activity := by
  cases m <;> rfl

theorem tick_activity (f : FrontEnd) : f.tick.activity = f.activity := by
  unfold FrontEnd.tick
  split
  · split <;> simp_all [beginScan]
  · rfl
  · rfl

theorem Rule.tick (h : f.Rule) : f.tick.Rule := by
  unfold FrontEnd.tick
  split
  · next ha =>
    split
    · exact h.of_on ha ha rfl h.micA h.micB
    · exact h.of_on ha ha rfl h.micA h.micB
  · next ha =>
    refine ⟨h.micA, h.micB, by simpa using h.settle, fun k hk => ?_, h.quiet⟩
    obtain ⟨j, hj, rfl⟩ := Option.map_eq_some_iff.1 hk
    have := h.settleTime j hj
    omega
  · exact h

theorem turnOff_rule (f : FrontEnd) : f.turnOff.Rule := by
  constructor <;> simp [turnOff, MicState.closed_rule]

theorem Rule.settle_of_off (h : f.Rule) (ha : f.activity = .off) : f.settle.Rule := by
  obtain ⟨hc, hA, hB⟩ := h.quiet (by simp [ha])
  constructor <;> simp [FrontEnd.settle, hc, hA, hB, MicState.closed_rule]

theorem Rule.settled (h : f.Rule) : f.settled.Rule := by
  constructor <;> simp [FrontEnd.settled, beginScan, h.micA, h.micB]

end FrontEnd

end Sys2Proof.Machine
end

section
/-! # The grader and the results store keep their rules (R139, R148 to R153, R161, R163, R166) -/

namespace Sys2Proof.Machine

/-! ## Points and grades -/

theorem OpenNote.points_le (o : OpenNote) : o.points ≤ 100 := by
  unfold points
  split
  · omega
  · refine Nat.div_le_of_le_mul ?_
    unfold samples
    nlinarith

/-- A note that scores points was sung (R147, R148). -/
theorem OpenNote.points_eq_zero {o : OpenNote} (h : o.samples < 5) : o.points = 0 := by
  simp [points, h]

theorem gradeOf_ne_none (r : Nat) : gradeOf r ≠ .none := by
  unfold gradeOf
  split
  · simp
  split <;> simp

namespace MicGrade

variable {g : MicGrade}

theorem unscored_rule : MicGrade.unscored.Rule := by
  constructor <;> simp [MicGrade.unscored, LiveIndicator.off]

/-- A microphone with an open note is scored (R140). -/
theorem Rule.parts_ne_none (h : g.Rule) {o : OpenNote} (ho : g.openNote = some o) : g.parts ≠ none := by
  intro hp
  rw [h.unscored hp] at ho
  simp [MicGrade.unscored] at ho

/-- A note judged adds at most 100 points for each unit of its weight, and is sung where it is on pitch (R148). -/
theorem Rule.judge (h : g.Rule) {o : OpenNote} (ho : g.openNote = some o) (w : Nat) : (g.judge o w).Rule := by
  have hp := h.parts_ne_none ho
  have hs := h.sung
  have hc := h.onPitch
  refine ⟨?_, ?_, ?_, h.lean, fun hn => absurd hn hp⟩
  · have ht := h.total
    have hpoints : o.points * w ≤ 100 * w := Nat.mul_le_mul_right w o.points_le
    simp only [MicGrade.judge]
    omega
  · simp only [MicGrade.judge]
    split <;> omega
  · simp only [MicGrade.judge]
    by_cases hfew : o.samples < 5
    · simp only [hfew, OpenNote.points_eq_zero hfew, if_true]
      exact hc
    · simp only [hfew, if_false]
      split <;> omega

theorem Rule.openCursor (h : g.Rule) {ps : PartSet} (hp : g.parts = some ps) (notes : List NoteRecord) (key : Int)
    (n : NoteRecord) : (g.openCursor notes ps key n).Rule :=
  ⟨h.total, h.sung, h.onPitch, fun _ => rfl, fun hn => by simp [MicGrade.openCursor, hp] at hn⟩

theorem Rule.follow {notes : List NoteRecord} {ps : PartSet} (key : Int) (t : Nat) : ∀ (tries : Nat) {g : MicGrade},
    g.Rule → g.parts = some ps → (g.follow notes ps key t tries).Rule := by
  intro tries
  induction tries with
  | zero => intro g h _; exact h
  | succ tries ih =>
    intro g h hp
    unfold MicGrade.follow
    split
    · next ho =>
      split
      · exact ih (h.judge ho _) hp
      · exact h
    split
    · exact h
    split
    · exact ih (h.openCursor hp notes key _) hp
    · exact h

theorem Rule.bringTo (h : g.Rule) (notes : List NoteRecord) (key : Int) (t : Nat) : (g.bringTo notes key t).Rule := by
  unfold MicGrade.bringTo
  split
  · exact h
  · next hp => exact Rule.follow key t _ h hp

theorem Rule.rewind (h : g.Rule) : g.rewind.Rule := by
  unfold MicGrade.rewind
  split
  · exact h
  · next ho => exact h.judge ho _

/-- A live indicator put out, and the open note closed where the microphone is scored. -/
theorem Rule.liveOff (h : g.Rule) {o : Option OpenNote} (ho : g.parts = none → o = none) :
    { g with openNote := o, live := LiveIndicator.off }.Rule := by
  refine ⟨h.total, h.sung, h.onPitch, fun _ => rfl, fun hp => ?_⟩
  rw [ho hp, h.unscored hp]
  rfl

theorem Rule.openNote_of_unscored (h : g.Rule) (hp : g.parts = none) : g.openNote = none := by
  rw [h.unscored hp]
  rfl

theorem Rule.finish (h : g.Rule) (t : Nat) : (g.finish t).Rule := by
  unfold MicGrade.finish
  split
  · exact h.liveOff h.openNote_of_unscored
  · next o ho =>
    split
    · exact h.liveOff fun _ => rfl
    · have hj := h.judge ho (o.weightOf (t - o.start))
      exact hj.liveOff hj.openNote_of_unscored

theorem Rule.takeSample (h : g.Rule) (p : Nat) : (g.takeSample p).Rule := by
  unfold MicGrade.takeSample
  split
  · exact h.liveOff h.openNote_of_unscored
  · next ho =>
    exact ⟨h.total, h.sung, h.onPitch, fun hn => absurd hn (gradeOf_ne_none _),
      fun hp => absurd hp (h.parts_ne_none ho)⟩

theorem begin_rule (notes : List NoteRecord) (parts : Option PartSet) : (MicGrade.begin notes parts).Rule := by
  refine ⟨Nat.zero_le _, Nat.zero_le _, Nat.zero_le _, fun _ => rfl, fun hp => ?_⟩
  have hp : parts = none := hp
  subst hp
  rfl

/-- A running score is at most 1000 (R150). -/
theorem Rule.score_inRange (h : g.Rule) : ScoreInRange g.score := by
  intro x hx
  have ht := h.total
  simp only [score, Option.ite_none_right_eq_some, Option.some.injEq] at hx
  rw [← hx.2]
  exact Nat.div_le_of_le_mul (by omega)

end MicGrade

theorem entryScoreOf_inRange (parts : Option PartSet × Option PartSet) {a b : Option Nat} (ha : ScoreInRange a)
    (hb : ScoreInRange b) : ScoreInRange (entryScoreOf parts a b) := by
  have hnone : ScoreInRange none := fun x hx => by cases hx
  unfold entryScoreOf
  split
  · exact ha
  · exact hb
  · exact hnone
  split
  · next x y =>
    intro z hz
    have hx := ha x rfl
    have hy := hb y rfl
    simp only [Option.some.injEq] at hz
    omega
  · exact ha
  · exact hb
  · exact hnone

namespace Grader

variable {g : Grader}

theorem atReset_rule : Grader.atReset.Rule :=
  ⟨MicGrade.unscored_rule, MicGrade.unscored_rule, fun _ hf => by cases hf⟩

theorem Rule.take (h : g.Rule) (notes : List NoteRecord) (key : Int) (a : Advance) : (g.take notes key a).Rule := by
  unfold Grader.take
  split
  · split
    · exact ⟨h.micA.rewind, h.micB.rewind, h.report⟩
    · exact ⟨h.micA.bringTo _ _ _, h.micB.bringTo _ _ _, h.report⟩
    · exact ⟨h.micA.bringTo _ _ _, h.micB.bringTo _ _ _, h.report⟩
  · exact h

theorem Rule.takeAll (h : g.Rule) (notes : List NoteRecord) (key : Int) : (g.takeAll notes key).Rule := by
  have hfold : ∀ (l : List Advance) {r : Grader}, r.Rule → (l.foldl (fun r a => r.take notes key a) r).Rule := by
    intro l
    induction l with
    | nil => intro r hr; exact hr
    | cons a l ih => intro r hr; exact ih (hr.take notes key a)
  exact hfold g.inbox ⟨h.micA, h.micB, h.report⟩

theorem newSong_rule (g : Grader) (notes : List NoteRecord) (mode : MicMode) : (g.newSong notes mode).Rule :=
  ⟨MicGrade.begin_rule _ _, MicGrade.begin_rule _ _, fun _ hf => by cases hf⟩

theorem Rule.reportNow (h : g.Rule) : g.reportNow.Rule :=
  ⟨h.micA.score_inRange, h.micB.score_inRange, entryScoreOf_inRange _ h.micA.score_inRange h.micB.score_inRange⟩

theorem Rule.finalScores (h : g.Rule) (notes : List NoteRecord) (key : Int) (t : Nat) :
    (g.finalScores notes key t).Rule := by
  have hsettled : (g.settleNotes notes key t).Rule :=
    ⟨(h.micA.bringTo _ _ _).finish t, (h.micB.bringTo _ _ _).finish t, h.report⟩
  unfold Grader.finalScores
  split
  · refine ⟨hsettled.micA, hsettled.micB, fun f hf => ?_⟩
    simp only [Option.some.injEq] at hf
    exact hf ▸ hsettled.reportNow
  · exact h

theorem Rule.songEnded (h : g.Rule) : g.songEnded.Rule := by
  unfold Grader.songEnded
  split
  · exact ⟨h.micA, h.micB, fun _ hf => by cases hf⟩
  · exact h

theorem discard_rule (g : Grader) : g.discard.Rule :=
  ⟨MicGrade.unscored_rule, MicGrade.unscored_rule, fun _ hf => by cases hf⟩

theorem Rule.takeSample (h : g.Rule) (m : Mic) (p : Nat) : (g.takeSample m p).Rule := by
  unfold Grader.takeSample
  split
  · split
    · exact ⟨h.micA.takeSample p, h.micB, h.report⟩
    · exact ⟨h.micA, h.micB.takeSample p, h.report⟩
  · exact h

theorem Rule.withInbox (h : g.Rule) (l : List Advance) : { g with inbox := l }.Rule := ⟨h.micA, h.micB, h.report⟩

end Grader

/-! ## The results store (R163, R165, R166) -/

/-- The scores of a record are in range (R161). -/
def HistoryRecord.ScoresInRange (r : HistoryRecord) : Prop :=
  ScoreInRange r.scoreA ∧ ScoreInRange r.scoreB ∧ ScoreInRange r.entryScore

theorem scoreInRange_none : ScoreInRange none := fun _ hx => by cases hx

theorem State.ungradedRecord_scores (e : Entry) (o : SongOutcome) : (State.ungradedRecord e o).ScoresInRange :=
  ⟨scoreInRange_none, scoreInRange_none, scoreInRange_none⟩

theorem State.gradedRecord_scores (e : Entry) (o : SongOutcome) (d : Nat) {f : Option FinalReport}
    (h : ∀ x, f = some x → x.Rule) : (State.gradedRecord e o d f).ScoresInRange := by
  cases f with
  | none => exact ⟨scoreInRange_none, scoreInRange_none, scoreInRange_none⟩
  | some x => exact ⟨(h x rfl).scoreA, (h x rfl).scoreB, (h x rfl).entryScore⟩

/-- A board in order: the records of at least a score come first, as many as its rank counts (R166). -/
theorem boardRank_split {board : List BoardRecord} (h : board.Pairwise BoardRecord.Ahead) (score : Nat) :
    (∀ x ∈ board.take (boardRank board score), score ≤ x.score) ∧
    (∀ x ∈ board.drop (boardRank board score), x.score < score) := by
  unfold boardRank
  induction board with
  | nil => simp
  | cons x board ih =>
    obtain ⟨hx, hboard⟩ := List.pairwise_cons.1 h
    by_cases hs : score ≤ x.score
    · simpa [hs] using ih hboard
    · have hlow : ∀ y ∈ board, y.score < score := fun y hy => by
        obtain hlt | ⟨heq, -⟩ := hx y hy <;> omega
      have hc : board.countP (fun y => decide (score ≤ y.score)) = 0 :=
        List.countP_eq_zero.2 fun y hy => by simpa using hlow y hy
      simpa [hs, hc] using ⟨by omega, hlow⟩

namespace Results

variable {v : Results}

theorem atReset_rule : Results.atReset.Rule := by
  constructor <;> simp [Results.atReset]

theorem newSession_rule : Results.newSession.Rule := by
  constructor <;> simp [Results.newSession]

theorem Rule.cleared (h : v.Rule) : v.cleared.Rule := by
  constructor <;> simp [Results.cleared, h.counter]

/-- A board record that finished last, inserted at its rank (R166). -/
theorem Rule.boardInsert_order (h : v.Rule) {r : BoardRecord} (hr : v.counter ≤ r.finish) :
    (boardInsert v.board r).Pairwise BoardRecord.Ahead := by
  obtain ⟨hhigh, hlow⟩ := boardRank_split h.boardOrder r.score
  refine List.Pairwise.sublist (List.take_sublist _ _) (List.pairwise_append.2
    ⟨h.boardOrder.sublist (List.take_sublist _ _), List.pairwise_cons.2
      ⟨fun y hy => .inl (hlow y hy), h.boardOrder.sublist (List.drop_sublist _ _)⟩, fun x hx y hy => ?_⟩)
  have hx' := hhigh x hx
  obtain rfl | hy := List.mem_cons.1 hy
  · have hfinish := (h.boardScores x (List.mem_of_mem_take hx)).2.2
    obtain hlt | heq := Nat.lt_or_eq_of_le hx'
    · exact .inl hlt
    · exact .inr ⟨heq.symm, by omega⟩
  · have := hlow y hy
    exact .inl (by omega)

theorem mem_boardInsert {board : List BoardRecord} {r x : BoardRecord} (h : x ∈ boardInsert board r) :
    x = r ∨ x ∈ board := by
  obtain hx | hx := List.mem_append.1 (List.mem_of_mem_take h)
  · exact .inr (List.mem_of_mem_take hx)
  · exact (List.mem_cons.1 hx).imp_right List.mem_of_mem_drop

/-- The next finish number is at least every one before it (R163). -/
theorem Rule.nextFinish_range (h : v.Rule) : v.counter ≤ v.nextFinish ∧ 1 ≤ v.nextFinish ∧ v.nextFinish ≤ 65535 := by
  have hc := h.counter
  unfold nextFinish
  omega

theorem Rule.add (h : v.Rule) {r : HistoryRecord} (hr : r.ScoresInRange) : (v.add r).Rule := by
  obtain ⟨hle, hone, hmax⟩ := h.nextFinish_range
  have hmem : ∀ x ∈ (v.add r).history, x = { r with finish := v.nextFinish } ∨ x ∈ v.history :=
    fun x hx => List.mem_cons.1 (List.mem_of_mem_take hx)
  have hboard : (v.add r).board = v.board ∨
      (v.add r).board = boardInsert v.board { r with finish := v.nextFinish : HistoryRecord }.boardRecord := by
    simp only [Results.add]
    split
    · exact .inr rfl
    · exact .inl rfl
  refine ⟨hmax, State.add_history_length v r, fun x hx => ?_, fun x hx => ?_, ?_, ?_, fun x hx => ?_, ?_⟩
  · obtain rfl | hx := hmem x hx
    · exact hr
    · exact h.scores x hx
  · obtain rfl | hx := hmem x hx
    · exact ⟨hone, le_rfl⟩
    · exact ⟨(h.finish x hx).1, (h.finish x hx).2.trans hle⟩
  · refine List.Pairwise.sublist (List.take_sublist _ _) (List.pairwise_cons.2 ⟨fun x hx => ?_, h.newestFirst⟩)
    exact (h.finish x hx).2.trans hle
  · obtain hb | hb := hboard <;> rw [hb]
    · exact h.boardSize
    · exact (List.length_take_le _ _)
  · have hold : ∀ y ∈ v.board, y.score ≤ 1000 ∧ 1 ≤ y.finish ∧ y.finish ≤ (v.add r).counter := fun y hy =>
      ⟨(h.boardScores y hy).1, (h.boardScores y hy).2.1, (h.boardScores y hy).2.2.trans hle⟩
    obtain hb | hb := hboard <;> rw [hb] at hx
    · exact hold x hx
    · obtain rfl | hx := mem_boardInsert hx
      · refine ⟨?_, hone, le_rfl⟩
        cases hs : r.entryScore with
        | none => simp [HistoryRecord.boardRecord]
        | some y => simpa [HistoryRecord.boardRecord, hs] using hr.2.2 y hs
      · exact hold x hx
  · obtain hb | hb := hboard <;> rw [hb]
    · exact h.boardOrder
    · exact h.boardInsert_order hle

end Results

end Sys2Proof.Machine
end

section
/-! # The rules that each block keeps by itself, and standby

`BlockRules` is the part of `Sound` that reads no id, no staging and no directive; every event keeps it. -/

namespace Sys2Proof.Machine

/-- The configuration set stays in its ranges (R194, R195). -/
theorem LyricSettings.default_rule : LyricSettings.default.Rule := by
  constructor <;> simp [LyricSettings.default]

theorem Settings.default_rule : Settings.default.Rule := by
  constructor <;> simp [Settings.default, LyricSettings.default_rule]

theorem clamp_range (v : Nat) {low high : Nat} (h : low ≤ high) : low ≤ clamp v low high ∧ clamp v low high ≤ high := by
  unfold clamp
  omega

namespace State

/-- The rules of the queue, the configuration set, the followers, the front end, the results store, and of standby. -/
structure BlockRules (s : State) : Prop where
  room : s.room.Rule
  settings : s.desk.settings.Rule
  lyric : s.lyric.Windowed
  front : s.front.Rule
  grader : s.grader.Rule
  results : s.results.Rule
  standby : s.StandbyRule

variable {s t : State}

/-! ## One block updated -/

theorem StandbyRule.of_eq (h : s.StandbyRule) (hsb : t.desk.standby = s.desk.standby)
    (ha : t.front.activity = s.front.activity) (hd : s.desk.standby = true → t.deck.state = .idle) : t.StandbyRule :=
  ⟨by rw [hsb, ha]; exact h.front, by rw [hsb]; exact hd⟩

/-- Blocks that stand keep their rules. -/
theorem BlockRules.of_eq (h : s.BlockRules) (hroom : t.room = s.room := by simp)
    (hset : t.desk.settings = s.desk.settings := by simp) (hlyric : t.lyric = s.lyric := by simp)
    (hfront : t.front = s.front := by simp) (hgrader : t.grader = s.grader := by simp)
    (hres : t.results = s.results := by simp) (hsb : t.desk.standby = s.desk.standby := by simp)
    (hdeck : t.deck.state = s.deck.state := by simp) : t.BlockRules where
  room := hroom ▸ h.room
  settings := hset ▸ h.settings
  lyric := hlyric ▸ h.lyric
  front := hfront ▸ h.front
  grader := hgrader ▸ h.grader
  results := hres ▸ h.results
  standby := h.standby.of_eq hsb (by rw [hfront]) (by rw [hdeck]; exact h.standby.deck)

theorem BlockRules.setRoom (h : s.BlockRules) {q : RoomQueue} (hq : q.Rule) : (s.setRoom q).BlockRules :=
  { h with room := hq, standby := h.standby.of_eq rfl rfl h.standby.deck }

theorem BlockRules.raise (h : s.BlockRules) (f : EventFlag) : (s.raise f).BlockRules := h.of_eq

theorem BlockRules.post (h : s.BlockRules) : s.post.BlockRules := h.of_eq

theorem BlockRules.setStore (h : s.BlockRules) (st : SongStore) : (s.setStore st).BlockRules := h.of_eq

theorem BlockRules.setLyric (h : s.BlockRules) {q : Sequencer} (hq : q.Windowed) : (s.setLyric q).BlockRules :=
  { h with lyric := hq, standby := h.standby.of_eq rfl rfl h.standby.deck }

theorem BlockRules.setGrader (h : s.BlockRules) {g : Grader} (hg : g.Rule) : (s.setGrader g).BlockRules :=
  { h with grader := hg, standby := h.standby.of_eq rfl rfl h.standby.deck }

theorem BlockRules.setResults (h : s.BlockRules) {v : Results} (hv : v.Rule) : (s.setResults v).BlockRules :=
  { h with results := hv, standby := h.standby.of_eq rfl rfl h.standby.deck }

theorem BlockRules.setFront (h : s.BlockRules) {f : FrontEnd} (hf : f.Rule) (ha : f.activity = s.front.activity) :
    (s.setFront f).BlockRules :=
  { h with front := hf, standby := h.standby.of_eq rfl ha h.standby.deck }

/-- The deck may become IDLE at any time. -/
theorem BlockRules.setDeck_idle (h : s.BlockRules) {d : Deck} (hd : d.state = .idle) : (s.setDeck d).BlockRules :=
  { h with standby := h.standby.of_eq rfl rfl fun _ => hd }

/-- Out of standby the deck may take any state. -/
theorem BlockRules.setDeck_awake (h : s.BlockRules) (d : Deck) (hsb : s.desk.standby = false) :
    (s.setDeck d).BlockRules :=
  { h with standby := h.standby.of_eq rfl rfl fun hon => by simp [hsb] at hon }

/-- A deck that is not IDLE is one out of standby (R93). -/
theorem BlockRules.setDeck_busy (h : s.BlockRules) (d : Deck) (hs : s.deck.state ≠ .idle) : (s.setDeck d).BlockRules :=
  { h with standby := h.standby.of_eq rfl rfl fun hsb => absurd (h.standby.deck hsb) hs }

theorem BlockRules.setSettings (h : s.BlockRules) {c : Settings} (hc : c.Rule) : (setSettings s c).BlockRules :=
  { h with settings := hc, standby := h.standby.of_eq rfl rfl h.standby.deck }

/-! ## The followers (R76) -/

theorem BlockRules.lyricCatchUp (h : s.BlockRules) : s.lyricCatchUp.BlockRules := h.setLyric (h.lyric.takeAll _)

theorem BlockRules.graderCatchUp (h : s.BlockRules) : s.graderCatchUp.BlockRules := h.setGrader (h.grader.takeAll _ _)

theorem BlockRules.handAdvance (h : s.BlockRules) (k : AdvanceKind) : (s.handAdvance k).BlockRules :=
  (h.setLyric (h.lyric.withInbox _)).setGrader (h.grader.withInbox _)

theorem BlockRules.lyricNewSong (h : s.BlockRules) : s.lyricNewSong.BlockRules :=
  h.lyricCatchUp.setLyric (h.lyricCatchUp.lyric.newSong h.settings.lyric)

theorem BlockRules.lyricDropSong (h : s.BlockRules) : s.lyricDropSong.BlockRules :=
  h.lyricCatchUp.setLyric h.lyricCatchUp.lyric.dropSong

theorem BlockRules.graderNewSong (h : s.BlockRules) : s.graderNewSong.BlockRules := by
  unfold State.graderNewSong
  split
  · exact h.graderCatchUp
  · exact h.graderCatchUp.setGrader (Grader.newSong_rule _ _ _)

theorem BlockRules.graderFinalScores (h : s.BlockRules) (m : Nat) : (s.graderFinalScores m).BlockRules :=
  h.graderCatchUp.setGrader (h.graderCatchUp.grader.finalScores _ _ _)

theorem BlockRules.graderSongEnded (h : s.BlockRules) : s.graderSongEnded.BlockRules :=
  h.graderCatchUp.setGrader h.graderCatchUp.grader.songEnded

theorem BlockRules.graderDiscard (h : s.BlockRules) : s.graderDiscard.BlockRules :=
  h.graderCatchUp.setGrader (Grader.discard_rule _)

/-! ## Starts and re-examinations (R70, R71) -/

theorem BlockRules.noteShortage (h : s.BlockRules) : s.noteShortage.BlockRules := by
  unfold State.noteShortage
  split
  · exact h
  · exact (h.setRoom (q := { s.room with shortage := true })
      (h.room.of_account rfl rfl h.room.credits h.room.quota)).raise _

theorem BlockRules.startEntry (h : s.BlockRules) (hsb : s.desk.standby = false) {e : Entry} {rest : List Entry}
    (he : s.room.entries = e :: rest) : (s.startEntry e rest).BlockRules := by
  have hcaught := h.lyricCatchUp.graderCatchUp
  have hqueued := (hcaught.setRoom (q := { s.room with entries := rest, shortage := false })
    (h.room.tail he false)).raise .queueChanged
  have hswapped := hqueued.setStore (s.store.swap (rest.head?.map (·.id)))
  have hstarted := hswapped.setDeck_awake (s.deck.startWith e) (by simpa using hsb)
  have hnew := hstarted.lyricNewSong.graderNewSong
  simpa [State.startEntry, RoomQueue.headId] using hnew

theorem BlockRules.reexamine (h : s.BlockRules) : s.reexamine.BlockRules := by
  obtain hr | hr | ⟨-, hsb, e, rest, he, hr⟩ := s.reexamine_cases <;> rw [hr]
  · exact h
  · exact h.noteShortage
  · exact h.startEntry hsb he

theorem BlockRules.reexamineEvent (h : s.BlockRules) : s.reexamineEvent.BlockRules := by
  obtain hr | hr | hr := s.reexamineEvent_cases <;> rw [hr]
  · exact h.reexamine.post
  · exact h
  · exact h.noteShortage

/-! ## The queue, the account and staging -/

theorem BlockRules.queueEvent (h : s.BlockRules) {q : RoomQueue} (hq : q.Rule) : (s.queueEvent q).BlockRules := by
  have hset := (h.setRoom hq).raise .queueChanged
  unfold State.queueEvent
  obtain ⟨-, hr⟩ | ⟨-, hr⟩ := ((s.setRoom q).raise .queueChanged).headEvent_cases s.room.headId <;> rw [hr]
  · exact hset
  · exact (hset.setStore _).reexamine.post

theorem BlockRules.queued (h : s.BlockRules) (hq : s.Queued t) : t.BlockRules := by
  obtain rfl | ⟨q, ha, rfl⟩ := hq
  · exact h
  · exact h.queueEvent (ha.rule h.room)

theorem BlockRules.accountEvent (h : s.BlockRules) {q : RoomQueue} (hq : q.Rule) : (s.accountEvent q).BlockRules := by
  obtain hr | hr := s.accountEvent_cases q <;> rw [hr]
  · exact h.setRoom hq
  · exact (h.setRoom hq).reexamineEvent

theorem BlockRules.setLocked (h : s.BlockRules) (b : Bool) : (s.setRoom { s.room with locked := b }).BlockRules :=
  h.setRoom (h.room.of_account rfl rfl h.room.credits h.room.quota)

theorem BlockRules.stageOpenEvent (h : s.BlockRules) (b : BankHeader) : (s.stageOpenEvent b).1.BlockRules := by
  obtain hr | ⟨-, hr⟩ := s.stageOpenEvent_cases b <;> rw [hr]
  · exact h
  · exact (h.setStore _).post

theorem BlockRules.stageLineEvent (h : s.BlockRules) (l : LineFields) : (s.stageLineEvent l).1.BlockRules := by
  obtain hr | ⟨-, part, hr⟩ := s.stageLineEvent_cases l <;> rw [hr]
  · exact h
  · exact h.setStore _

theorem BlockRules.stageNoteEvent (h : s.BlockRules) (n : NoteFields) : (s.stageNoteEvent n).1.BlockRules := by
  obtain hr | ⟨-, part, hr⟩ := s.stageNoteEvent_cases n <;> rw [hr]
  · exact h
  · exact h.setStore _

theorem BlockRules.stageCloseEvent (h : s.BlockRules) (i : Nat) : (s.stageCloseEvent i).1.BlockRules := by
  obtain hr | ⟨-, -, hr⟩ | ⟨-, hr⟩ := s.stageCloseEvent_cases i <;> rw [hr]
  · exact h
  · exact (h.setStore _).reexamine.post
  · exact h.setStore _

theorem BlockRules.addRecord (h : s.BlockRules) {r : HistoryRecord} (hr : r.ScoresInRange) : (s.addRecord r).BlockRules := by
  have hadded := (h.setResults (h.results.add hr)).raise .songDone
  unfold State.addRecord
  dsimp only
  split
  · exact hadded.raise _
  · exact hadded

theorem BlockRules.stageFailEvent (h : s.BlockRules) (i : Nat) : (s.stageFailEvent i).1.BlockRules := by
  obtain hr | ⟨e, -, hr⟩ := s.stageFailEvent_cases i <;> rw [hr]
  · exact h
  · exact (h.addRecord (ungradedRecord_scores e .noStage)).queueEvent (h.room.remove i)

/-! ## The end of a song (R89 to R92) -/

theorem BlockRules.finalise (h : s.BlockRules) (hd : s.deck.state ≠ .idle) (o : SongOutcome) (m : Nat) :
    (s.finalise o m).BlockRules := by
  unfold State.finalise
  split
  · exact h
  · dsimp only
    split
    · have hgraded := h.graderFinalScores m
      exact (hgraded.setDeck_busy _ (by simpa using hd)).addRecord (gradedRecord_scores _ _ _ hgraded.grader.report)
    · exact (h.graderSongEnded.setDeck_busy _ (by simpa using hd)).addRecord (ungradedRecord_scores _ _)

theorem BlockRules.idleEvent (h : s.BlockRules) : s.idleEvent.BlockRules := (h.setDeck_idle rfl).reexamine.post

theorem BlockRules.endSong (h : s.BlockRules) (hd : s.deck.state ≠ .idle) (o : SongOutcome) :
    (s.endSong o).BlockRules :=
  (h.setDeck_busy _ hd).finalise (by simp [Deck.enterStopping]) o _

theorem BlockRules.clearDeck (h : s.BlockRules) : s.clearDeck.BlockRules := by
  obtain ⟨-, hr⟩ | ⟨hd, hr⟩ | ⟨hi, -, hr⟩ := s.clearDeck_cases <;> rw [hr]
  · exact h
  · exact h.setDeck_busy _ (by simp [hd])
  · exact h.graderDiscard.lyricDropSong.setDeck_busy _ (by simpa using hi)

theorem BlockRules.roomClearEvent (h : s.BlockRules) : s.roomClearEvent.BlockRules := by
  have hdropped := (((h.setRoom h.room.cleared).raise .queueChanged).setStore
    (((s.setRoom s.room.cleared).raise .queueChanged).store.nameHead none)).clearDeck
  exact ((hdropped.setResults hdropped.results.cleared).raise _).post

/-! ## Marks, requests at the deck and ticks -/

theorem BlockRules.takeRun (h : s.BlockRules) (m : Nat) : (s.takeRun m).1.BlockRules := by
  obtain hr | ⟨hd, hr⟩ | ⟨hd, hr⟩ | ⟨hd, hr⟩ := s.takeRun_cases m <;> rw [hr]
  · exact h
  · exact ((h.setDeck_busy _ (by simp [hd])).setRoom h.room.takeCredit).handAdvance _
  · exact (h.setDeck_busy _ (by obtain hd | hd := hd <;> simp [hd])).handAdvance _
  · exact h.setDeck_busy _ (by simp [hd])

theorem BlockRules.takeEnd (h : s.BlockRules) (m : Nat) : (s.takeEnd m).1.BlockRules := by
  obtain hr | ⟨-, hr⟩ | ⟨hi, -, marked, o, k, hr, hm⟩ := s.takeEnd_cases m <;> rw [hr]
  · exact h
  · exact h.idleEvent
  · obtain ⟨hmarked, hbusy⟩ : marked.BlockRules ∧ marked.deck.state ≠ .idle := by
      obtain rfl | rfl | rfl := hm
      · exact ⟨h, hi⟩
      · exact ⟨(h.setDeck_busy _ hi).handAdvance _, by simp [Deck.runMark]⟩
      · exact ⟨h.setDeck_busy _ hi, hi⟩
    exact (hmarked.finalise hbusy o k).idleEvent

theorem BlockRules.takeMark (h : s.BlockRules) (i m : Nat) (k : Byte) : (s.takeMark i m k).1.BlockRules := by
  obtain hr | ⟨-, hr | hr⟩ := s.takeMark_cases i m k <;> rw [hr]
  · exact h
  · exact h.takeRun m
  · exact h.takeEnd m

theorem BlockRules.holdEvent (h : s.BlockRules) : s.holdEvent.1.BlockRules := by
  obtain hr | ⟨hd, hr⟩ := s.holdEvent_cases <;> rw [hr]
  · exact h
  · exact (h.setDeck_busy _ (by obtain hd | hd := hd <;> simp [hd])).post

theorem BlockRules.goEvent (h : s.BlockRules) : s.goEvent.1.BlockRules := by
  obtain hr | ⟨hd, hr⟩ := s.goEvent_cases <;> rw [hr]
  · exact h
  · exact ((h.setDeck_busy _ (by simp [hd])).handAdvance _).post

theorem BlockRules.keyEvent (h : s.BlockRules) (delta : Int) : (s.keyEvent delta).1.BlockRules := by
  obtain hr | ⟨hd, hr⟩ := s.keyEvent_cases delta <;> rw [hr]
  · exact h
  · exact (h.setDeck_busy _ (by obtain hd | hd | hd := hd <;> simp [hd])).post

theorem BlockRules.skipEvent (h : s.BlockRules) (i : Nat) : (s.skipEvent i).1.BlockRules := by
  obtain hr | ⟨hi, -, hr⟩ := s.skipEvent_cases i <;> rw [hr]
  · exact h
  · exact (h.endSong hi _).post

theorem BlockRules.stopSongEvent (h : s.BlockRules) : s.stopSongEvent.1.BlockRules := by
  obtain hr | ⟨hi, -, hr⟩ := s.stopSongEvent_cases <;> rw [hr]
  · exact h
  · exact (h.endSong hi _).post

theorem BlockRules.stallExpiry (h : s.BlockRules) (hd : s.deck.state = .playing) : (stallExpiry s).BlockRules :=
  (h.setDeck_busy s.deck.stall (by simp [hd])).raise .stall

theorem BlockRules.tickDeck (h : s.BlockRules) : (tickDeck s).BlockRules := by
  have hcounted : (s.setDeck s.deck.tick).BlockRules := h.of_eq (hdeck := rfl)
  obtain ⟨-, hr⟩ | ⟨-, -, hr⟩ | ⟨hd, hr⟩ := s.tickDeck_cases <;> rw [hr]
  · exact hcounted
  · exact hcounted.handAdvance _
  · exact (hcounted.handAdvance _).stallExpiry (by simpa [Deck.tick] using hd)

theorem BlockRules.routeSample (h : s.BlockRules) (m : Mic) (p : Nat) : (s.routeSample m p).BlockRules := by
  unfold State.routeSample
  split
  · exact h
  split
  · exact h.setGrader (h.grader.takeSample m p)
  · exact h

/-! ## Standby and the configuration (R135, R136, R194, R200, R201) -/

theorem BlockRules.standbyEvent (h : s.BlockRules) : s.standbyEvent.1.BlockRules := by
  obtain hr | ⟨hd, hr⟩ := s.standbyEvent_cases <;> rw [hr]
  · exact h
  · exact { h with
      front := FrontEnd.turnOff_rule _
      standby := ⟨⟨fun _ => rfl, fun _ => rfl⟩, fun _ => hd⟩ }

theorem BlockRules.leaveStandby (h : s.BlockRules) (hsb : s.desk.standby = true) : s.leaveStandby.BlockRules := by
  have hoff : s.front.activity = .off := h.standby.front.1 hsb
  have hwoken : (((s.setDesk { s.desk with standby := false }).raise .woke).setFront s.front.settle).BlockRules :=
    { h with
      front := h.front.settle_of_off hoff
      standby := ⟨by simp [FrontEnd.settle], by simp⟩ }
  exact hwoken.reexamineEvent

theorem BlockRules.configure (h : s.BlockRules) (item : ConfigItem) (v : Nat) : (configure s item v).BlockRules := by
  have hc := h.settings
  have hl := hc.lyric
  cases item
  case rows => exact h.setSettings ⟨{ hl with rows := clamp_range v (by simp) }, hc.openThreshold, hc.closeThreshold⟩
  case lead => exact h.setSettings ⟨{ hl with lead := clamp_range v (by simp) }, hc.openThreshold, hc.closeThreshold⟩
  case hold =>
    exact h.setSettings ⟨{ hl with hold := (clamp_range v (by simp)).2 }, hc.openThreshold, hc.closeThreshold⟩
  case scroll => exact h.setSettings ⟨{ hl with scroll := clamp_range v (by simp) }, hc.openThreshold, hc.closeThreshold⟩
  case gap => exact h.setSettings ⟨{ hl with gap := clamp_range v (by simp) }, hc.openThreshold, hc.closeThreshold⟩
  case openThreshold => exact h.setSettings ⟨hl, (clamp_range v (by simp)).2, Nat.min_le_right _ _⟩
  case closeThreshold => exact h.setSettings ⟨hl, hc.openThreshold, Nat.min_le_right _ _⟩
  case baud =>
    unfold Machine.configure setBaud
    dsimp only
    have hset := h.setSettings (c := { s.desk.settings with baud := rateOf v })
      ⟨hl, hc.openThreshold, hc.closeThreshold⟩
    split
    · exact hset
    · exact hset.of_eq
  case skipAllowed => exact h.setSettings ⟨hl, hc.openThreshold, hc.closeThreshold⟩
  case wakeOnPanel => exact h.setSettings ⟨hl, hc.openThreshold, hc.closeThreshold⟩
  case quota => exact h.setRoom (h.room.of_account rfl rfl h.room.credits (clamp_range v (by simp)).2)

theorem afterReset_blockRules (pins : BitVec 2) (s : State) : (afterReset pins s).BlockRules where
  room := RoomQueue.atReset_rule
  settings := Settings.default_rule
  lyric := Sequencer.windowed_of_nil rfl LyricSettings.default_rule (Nat.zero_le _)
  front := FrontEnd.atReset_rule
  grader := Grader.atReset_rule
  results := Results.atReset_rule
  standby := ⟨by simp [afterReset, DeskUnit.atReset, State.reset, FrontEnd.atReset], fun _ => rfl⟩

/-- Every event keeps the rules of the blocks. -/
theorem blockRules_kept : Kept BlockRules where
  raise _ f h := h.raise f
  panel _ _ _ h := h.of_eq
  port _ _ _ h := h.of_eq
  desk _ _ hset hsb _ h := h.of_eq rfl hset rfl rfl rfl rfl hsb rfl
  frontTick s h := h.setFront h.front.tick s.front.tick_activity
  settled s ha h := { h with
    front := h.front.settled
    standby := ⟨⟨fun hsb => by simpa [ha] using h.standby.front.1 hsb,
      fun hoff => by simp [FrontEnd.settled, FrontEnd.beginScan] at hoff⟩, h.standby.deck⟩ }
  conversion _ _ _ _ h := h.setFront (h.front.complete _ _ _) (FrontEnd.complete_activity _ _ _ _)
  edge _ m counts ha h := h.setFront (h.front.setMic ha m ((h.front.mic m).takeEdge counts)) (by simp)
  resetUnit _ _ h := h.of_eq
  leaveStandby _ hsb h := h.leaveStandby hsb
  standby _ h := h.standbyEvent
  submit _ _ _ _ h := h.queued (submit_queued _ _ _ _)
  cancel _ _ _ h := h.queued (cancel_queued _ _ _)
  panelMove _ _ _ _ h := h.queued (panelMove_queued _ _ _ _)
  deskMove _ _ _ h := h.queued (deskMove_queued _ _ _)
  promote _ _ h := h.queued (promoteId_queued _ _)
  remove _ _ h := h.queued (removeId_queued _ _)
  addCredits _ v h := h.accountEvent (h.room.addCredits v)
  setUnlimited _ b h := h.accountEvent (h.room.setUnlimited b)
  lock _ h := h.setLocked true
  unlock _ h := (h.setLocked false).reexamineEvent
  configure _ item v h := h.configure item v
  newSession _ h := h.setResults Results.newSession_rule
  stageOpen _ _ h := h.stageOpenEvent _
  stageLine _ _ h := h.stageLineEvent _
  stageNote _ _ h := h.stageNoteEvent _
  stageClose _ _ h := h.stageCloseEvent _
  stageFail _ _ h := h.stageFailEvent _
  hold _ h := h.holdEvent
  go _ h := h.goEvent
  key _ _ h := h.keyEvent _
  skip _ _ h := h.skipEvent _
  stopSong _ h := h.stopSongEvent
  tick _ h := h.tickDeck
  stall s hd h := h.stallExpiry (by simp only [Deck.stallDue, Bool.and_eq_true, beq_iff_eq] at hd; exact hd.1)
  startExpiry _ hd h := (h.endSong (by simp [hd]) _).post
  limitExpiry _ hd h := ((h.endSong (by simp [hd]) _).raise _).post
  stopExpiry _ _ h := h.idleEvent
  lyricTake s a rest _ h := h.setLyric ((h.lyric.withInbox rest).take _ a)
  graderTake s a rest _ h := h.setGrader ((h.grader.withInbox rest).take _ _ a)
  scene _ h := h.lyricCatchUp.setLyric (h.lyricCatchUp.lyric.step _ _)
  lyricNewSong _ h := h.lyricNewSong
  lyricDropSong _ h := h.lyricDropSong
  graderNewSong _ h := h.graderNewSong
  finalScores _ _ h := h.graderFinalScores _
  songEnded _ h := h.graderSongEnded
  discard _ h := h.graderDiscard
  sample _ m p h := h.routeSample m p
  queue _ _ h := h.of_eq
  flags _ _ hset hsb h := h.of_eq rfl hset rfl rfl rfl rfl hsb rfl
  afterReset s pins _ := afterReset_blockRules pins s
  setCredits _ v h := h.accountEvent (h.room.setCredits v)
  roomClear _ h := h.roomClearEvent
  mark _ _ _ _ h := h.takeMark _ _ _

end State

end Sys2Proof.Machine
end

section
/-! # The panel line units keep their rule (R27 to R31, R35, R36)

Only the panel rows, CONFIG SET, READ LINE COUNTERS and the leaving of reset change a panel line unit. -/

namespace Sys2Proof.Machine

/-! ## The unit's own operations -/

/-- No counter passes 255 (R31). -/
def LineCounters.InRange (c : LineCounters) : Prop :=
  c.parity ≤ 255 ∧ c.framing ≤ 255 ∧ c.lead ≤ 255 ∧ c.length ≤ 255 ∧ c.check ≤ 255 ∧ c.gap ≤ 255 ∧ c.cut ≤ 255 ∧
    c.drop ≤ 255

theorem bump_le (n : Nat) : bump n ≤ 255 := Nat.min_le_right _ _

theorem LineCounters.InRange.count {c : LineCounters} (h : c.InRange) (e : FrameError) : (c.count e).InRange := by
  obtain ⟨h1, h2, h3, h4, h5, h6, h7, h8⟩ := h
  cases e <;> simp [LineCounters.InRange, LineCounters.count, bump_le, *]

theorem LineCounters.InRange.countDrop {c : LineCounters} (h : c.InRange) : c.countDrop.InRange := by
  obtain ⟨h1, h2, h3, h4, h5, h6, h7, -⟩ := h
  exact ⟨h1, h2, h3, h4, h5, h6, h7, bump_le _⟩

theorem LineCounters.zero_inRange : LineCounters.zero.InRange := by
  simp [LineCounters.InRange, LineCounters.zero]

/-- What a good character leaves in the assembler fits its state (R27, R28). -/
theorem Assembler.Rule.takeGood {a : Assembler} (h : a.Rule) (v : Byte) : (a.takeGood v).next.Rule := by
  unfold Assembler.takeGood
  split
  · trivial
  · split <;> trivial
  · trivial
  · split
    · trivial
    split
    · exact Nat.zero_le _
    · exact ⟨by simp only [List.length_nil]; omega, by omega⟩
  · obtain ⟨hlt, hle⟩ := h
    split
    · simp only [Assembled.moved, Assembler.Rule, List.length_append, List.length_singleton]
      omega
    · simp only [Assembled.moved, Assembler.Rule, List.length_append, List.length_singleton]
      omega
  · split <;> trivial

theorem Assembler.takeBad_rule (e : FrameError) (a : Assembler) : (a.takeBad e).next.Rule := by
  unfold Assembler.takeBad
  split <;> trivial

theorem Assembler.Rule.take {a : Assembler} (h : a.Rule) (r : Received) : (a.take r).next.Rule := by
  cases r with
  | falseStart => exact h
  | good v => exact h.takeGood v
  | parity => exact a.takeBad_rule _
  | framing => exact a.takeBad_rule _

namespace PanelUnit

variable {u : PanelUnit}

theorem atReset_rule (b : Bool) : (PanelUnit.atReset b).Rule := by
  constructor <;> simp [PanelUnit.atReset, Assembler.Rule, Assembler.inProgress, LineCounters.zero]

/-- The receiving half changed, with the gap count in step and the counters in range. -/
theorem Rule.of_receiver (h : u.Rule) {v : PanelUnit} (hslot : v.slot = u.slot) (hshift : v.shift = u.shift)
    (ha : v.assembler.Rule) (hg : v.gapCounting = v.assembler.inProgress) (hc : v.counters.InRange) : v.Rule where
  assembler := ha
  gap := hg
  notReserved := hslot ▸ h.notReserved
  slotWaits := by rw [hslot, hshift]; exact h.slotWaits
  slotFits := hslot ▸ h.slotFits
  shiftFits := hshift ▸ h.shiftFits
  counters := hc

/-- The transmitting half changed: a full slot waits for a shift that sends, and every reply fits. -/
theorem Rule.of_transmitter (h : u.Rule) {v : PanelUnit} (ha : v.assembler = u.assembler)
    (hg : v.gapCounting = u.gapCounting) (hc : v.counters = u.counters) (hr : v.slot ≠ .reserved)
    (hw : v.slot = .empty ∨ v.shift.isSome = true) (hs : ∀ r, v.slot = .full r → r.Fits)
    (hx : ∀ x, v.shift = some x → x.reply.Fits) : v.Rule where
  assembler := ha ▸ h.assembler
  gap := by rw [hg, ha]; exact h.gap
  notReserved := hr
  slotWaits := hw
  slotFits := hs
  shiftFits := hx
  counters := hc ▸ h.counters

theorem Rule.takeBreak (h : u.Rule) : u.takeBreak.Rule := by
  refine h.of_receiver rfl rfl trivial rfl ?_
  unfold PanelUnit.takeBreak
  dsimp only
  split
  · exact LineCounters.InRange.count h.counters _
  · exact h.counters

theorem Rule.afterAssembly (h : u.Rule) {a : Assembled} (ha : a.next.Rule) : (u.afterAssembly a).Rule := by
  refine h.of_receiver rfl rfl ha rfl ?_
  unfold PanelUnit.afterAssembly
  dsimp only
  split
  · exact h.counters
  · exact LineCounters.InRange.count h.counters _

theorem Rule.gapError (h : u.Rule) : u.gapError.Rule :=
  h.of_receiver rfl rfl trivial rfl (LineCounters.InRange.count h.counters _)

theorem Rule.returnHigh (h : u.Rule) : u.returnHigh.Rule := h.of_receiver rfl rfl h.assembler h.gap h.counters

theorem Rule.withLevel (h : u.Rule) (b : Bool) : { u with lineHigh := b }.Rule :=
  h.of_receiver rfl rfl h.assembler h.gap h.counters

theorem Rule.setPendingRate (h : u.Rule) (r : Rate) : (u.setPendingRate r).Rule :=
  h.of_receiver rfl rfl h.assembler h.gap h.counters

theorem Rule.drop (h : u.Rule) : u.drop.Rule :=
  h.of_receiver rfl rfl h.assembler h.gap (LineCounters.InRange.countDrop h.counters)

theorem Rule.clearCounters (h : u.Rule) : { u with counters := LineCounters.zero }.Rule :=
  h.of_receiver rfl rfl h.assembler h.gap LineCounters.zero_inRange

/-- A reply that fits arrives at a unit whose slot was empty (R35). -/
theorem Rule.told (h : u.Rule) {r : PanelReply} (hr : r.Fits) : (u.told r).Rule := by
  cases hu : u.shift with
  | none =>
    refine h.of_transmitter rfl rfl rfl (by simp [PanelUnit.told, hu]) (.inl (by simp [PanelUnit.told, hu]))
      (by simp [PanelUnit.told, hu]) (fun x hx => ?_)
    simp only [PanelUnit.told, hu, if_true, Option.some.injEq] at hx
    exact hx ▸ hr
  | some y =>
    refine h.of_transmitter rfl rfl rfl (by simp [PanelUnit.told, hu]) (.inr (by simp [PanelUnit.told, hu]))
      (fun q hq => ?_) (fun x hx => h.shiftFits x (by simpa [PanelUnit.told, hu] using hx))
    simp only [PanelUnit.told, hu, reduceCtorEq, if_false, ReplySlot.full.injEq] at hq
    exact hq ▸ hr

/-- The reply in the shift has been sent: the waiting one, if there is one, takes its place (R35). -/
theorem Rule.completeShift (h : u.Rule) : u.completeShift.Rule := by
  unfold PanelUnit.completeShift
  split
  · exact h
  split
  · next r hs =>
    exact h.of_transmitter rfl rfl rfl (by simp) (.inl rfl) (by simp) (by simpa using h.slotFits r hs)
  · next hfull =>
    have hempty : u.slot = .empty := by
      cases hs : u.slot
      case empty => rfl
      case reserved => exact absurd hs h.notReserved
      case full r => exact absurd hs (hfull r)
    exact h.of_transmitter rfl rfl rfl h.notReserved (.inl hempty) h.slotFits (by simp)

end PanelUnit

/-! ## The replies fit their frames (R36, section 11.3) -/

theorem noReply_fits (kind : Byte) (code : ResultCode) : (noReply kind code).Fits := by
  simp [PanelReply.Fits, noReply]

theorem requestReply_fits (kind : Byte) {a : Answer} (h : a.payload.length ≤ 2) : (requestReply kind a).Fits := by
  unfold requestReply
  split
  · simp only [PanelReply.Fits, okReply, List.length_cons]
    omega
  · exact noReply_fits _ _

/-- A page of records of one length, with its two bytes in front. -/
theorem length_page_le {α : Type} (l : List α) (bytes : α → List Byte) (n size : Nat) (hb : ∀ x, (bytes x).length = n)
    (hl : l.length ≤ size) (x y : Byte) : (x :: y :: l.flatMap bytes).length ≤ 2 + size * n := by
  have hsum : (l.map fun x => (bytes x).length).sum = l.length * n := by simp [hb]
  have hmul : l.length * n ≤ size * n := Nat.mul_le_mul_right n hl
  simp only [List.length_cons, List.length_flatMap, hsum]
  omega

theorem nowReportBytes_length (s : State) : (nowReportBytes s).length = 25 := by
  have hentry : (nowEntryBytes s).length = 15 := by
    unfold nowEntryBytes
    split
    · rfl
    · rfl
    · simp [field3]
  simp [nowReportBytes, nowScoreBytes, optional2, field2, hentry]

/-- What each request's owner replies fits a reply frame (section 11.3). -/
theorem panelOwner_fits (k : PanelKind) (l : PanelLine) (p : List Byte) (s : State) : (panelOwner k l p s).2.Fits := by
  cases k
  case askSong =>
    refine requestReply_fits _ ?_
    unfold State.submit
    (repeat' split) <;> simp [Answer.bare]
  case dropEntry =>
    refine requestReply_fits _ ?_
    unfold State.cancel
    (repeat' split) <;> simp [Answer.bare]
  case shiftEntry =>
    refine requestReply_fits _ ?_
    unfold State.panelMove State.moveEntry
    (repeat' split) <;> simp [Answer.bare]
  case skipNow =>
    refine requestReply_fits _ ?_
    unfold State.skipEvent
    (repeat' split) <;> simp [Answer.bare]
  case hold =>
    refine requestReply_fits _ ?_
    unfold State.holdEvent
    (repeat' split) <;> simp [Answer.bare]
  case go =>
    refine requestReply_fits _ ?_
    unfold State.goEvent
    (repeat' split) <;> simp [Answer.bare]
  case key =>
    refine requestReply_fits _ ?_
    unfold State.keyEvent
    (repeat' split) <;> simp [Answer.bare]
  case peekQueue =>
    have h := length_page_le (s.room.page (byteAt p 0).toNat 4) (fun x => RoomQueue.entryBytes x.1 x.2) 12 4
      (fun x => by simp [RoomQueue.entryBytes, field2, field3]) (by simp [RoomQueue.page])
      (byteOf s.room.entries.length) (byteOf (s.room.page (byteAt p 0).toNat 4).length)
    exact h.trans (by omega)
  case peekNow => exact (nowReportBytes_length s).trans_le (by omega)
  case peekPast =>
    have h := length_page_le (s.results.page (byteAt p 0).toNat 2) (fun x => Results.summaryBytes x.1 x.2) 13 2
      (fun x => by simp [Results.summaryBytes, optional2, field2, field3]) (by simp [Results.page])
      (byteOf s.results.history.length) (byteOf (s.results.page (byteAt p 0).toNat 2).length)
    exact h.trans (by omega)

/-! ## Both units of a state -/

namespace State

/-- Both panel line units keep their rule. -/
def PanelRules (s : State) : Prop := ∀ l, (s.panel l).Rule

variable {s t : State}

theorem PanelRules.of_eq (h : s.PanelRules) (hA : t.panelA = s.panelA := by simp) (hB : t.panelB = s.panelB := by simp) :
    t.PanelRules := by
  intro l
  cases l
  · simpa only [State.panel, hA] using h .a
  · simpa only [State.panel, hB] using h .b

theorem PanelRules.setPanel (h : s.PanelRules) {l : PanelLine} {u : PanelUnit} (hu : u.Rule) :
    (s.setPanel l u).PanelRules := by
  intro m
  cases l <;> cases m
  · exact hu
  · exact h .b
  · exact h .a
  · exact hu

theorem PanelRules.raise (h : s.PanelRules) (f : EventFlag) : (s.raise f).PanelRules := h.of_eq

/-- A reply arrives at the slot that its request reserved (R35). -/
theorem PanelRules.sendReply (h : s.PanelRules) {l : PanelLine} (hA : t.panelA = (s.setPanel l (s.panel l).reserve).panelA)
    (hB : t.panelB = (s.setPanel l (s.panel l).reserve).panelB) {r : PanelReply} (hr : r.Fits) :
    (sendReply l r t).PanelRules := by
  have htold : ((s.panel l).told r).Rule := (h l).told hr
  rw [← placeReply_reserve] at htold
  intro m
  cases l <;> cases m <;>
    simp only [Machine.sendReply, State.setPanel, State.panel, setPanelA_panelA, setPanelA_panelB, setPanelB_panelA,
      setPanelB_panelB] at hA hB htold ⊢
  · rw [hA]; exact htold
  · rw [hB]; exact h .b
  · rw [hA]; exact h .a
  · rw [hB]; exact htold

theorem panelOwner_panels (k : PanelKind) (l : PanelLine) (p : List Byte) (s : State) :
    (panelOwner k l p s).1.panelA = s.panelA ∧ (panelOwner k l p s).1.panelB = s.panelB :=
  ⟨panelOwner_panel k l .a p, panelOwner_panel k l .b p⟩

theorem PanelRules.dispatchFrame (h : s.PanelRules) {l : PanelLine}
    (hA : t.panelA = (s.setPanel l (s.panel l).reserve).panelA)
    (hB : t.panelB = (s.setPanel l (s.panel l).reserve).panelB) (kind : Byte) (p : List Byte) :
    (dispatchFrame l kind p t).PanelRules := by
  unfold Machine.dispatchFrame
  split
  · exact h.sendReply hA hB (noReply_fits _ _)
  · next k _ =>
    split
    · exact h.sendReply hA hB (noReply_fits _ _)
    · obtain ⟨ha, hb⟩ := panelOwner_panels k l p t
      exact h.sendReply (ha.trans hA) (hb.trans hB) (panelOwner_fits k l p t)

theorem PanelRules.takeFrame (h : s.PanelRules) (l : PanelLine) (kind : Byte) (p : List Byte) :
    (takeFrame l kind p s).PanelRules := by
  unfold Machine.takeFrame
  dsimp only
  split
  · exact (h.setPanel (h l).drop).raise _
  split
  · exact h.dispatchFrame rfl rfl kind p
  split
  · exact h.dispatchFrame (by simp) (by simp) kind p
  · exact h.sendReply rfl rfl (noReply_fits _ _)

theorem PanelRules.takeCharacter (h : s.PanelRules) (l : PanelLine) (r : Received) : (takeCharacter l r s).PanelRules := by
  have htaken := h.setPanel (l := l) ((h l).afterAssembly ((h l).assembler.take r))
  unfold Machine.takeCharacter
  dsimp only
  split
  · exact htaken.raise _
  · exact htaken.takeFrame l _ _
  · exact htaken

/-! ## The commands of the other lines -/

theorem PanelRules.takeCommand (h : s.PanelRules) (kind : Byte) (p : List Byte) (check : Byte) :
    (takeCommand kind p check s).PanelRules := by
  have howner : ∀ k, (mediaOwner k p s).1.PanelRules := by
    intro k
    refine h.of_eq ?_ ?_ <;> cases k <;>
      simp only [mediaOwner, stageOpenCommand, lineCommand, noteCommand, stageCloseCommand, stageFailCommand,
        timeMarkCommand, readDirectiveCommand, ackDirectiveCommand, readSceneCommand, sceneLyric, repeatAnswerCommand] <;>
      (try split) <;> simp
  unfold Machine.takeCommand answerWith
  split
  · exact h
  split
  · exact h.of_eq
  · next k _ => exact (howner k).of_eq

theorem PanelRules.configure (h : s.PanelRules) (item : ConfigItem) (v : Nat) : (configure s item v).PanelRules := by
  cases item
  case baud =>
    unfold Machine.configure setBaud
    dsimp only
    split
    · exact h.of_eq rfl rfl
    · have hset : (setSettings s { s.desk.settings with baud := rateOf v }).PanelRules := h.of_eq rfl rfl
      exact (hset.setPanel (l := .a) ((h .a).setPendingRate _)).setPanel (l := .b) ((h .b).setPendingRate _)
  all_goals exact h.of_eq rfl rfl

theorem PanelRules.deskOwner (h : s.PanelRules) (k : DeskKind) (p : List Byte) : (deskOwner k p s).1.PanelRules := by
  cases k
  case configSet =>
    unfold Machine.deskOwner configSetCommand
    dsimp only
    split
    · exact h
    · exact h.configure _ _
  case readLineCounters =>
    unfold Machine.deskOwner readLineCountersCommand
    dsimp only
    split
    · exact (h.setPanel (l := .a) (h .a).clearCounters).setPanel (l := .b) (h .b).clearCounters
    · exact h
  case newSession =>
    unfold Machine.deskOwner newSessionCommand
    dsimp only
    split <;> exact h.of_eq
  case wake =>
    unfold Machine.deskOwner wakeCommand
    dsimp only
    split
    · exact h.of_eq
    · exact h
  all_goals
    refine h.of_eq ?_ ?_ <;>
      simp [Machine.deskOwner, statusCommand, readEventsCommand, ackEventsCommand, eventMaskCommand, creditsSetCommand,
        creditsAddCommand, creditsUnlimitedCommand, lockCommand, unlockCommand, configReadCommand,
        insertPriorityCommand, promoteCommand, moveCommand, removeCommand, stopSongCommand, readQueueCommand,
        readHistoryCommand, readBoardCommand, roomClearCommand, standbyCommand, deskResetCommand]

theorem PanelRules.takeWrite (h : s.PanelRules) (kind : Byte) (p : List Byte) : (takeWrite kind p s).PanelRules := by
  have hended : s.endTransaction.PanelRules := h.of_eq rfl rfl
  unfold Machine.takeWrite replyWith
  split
  · exact h
  dsimp only
  split
  · exact hended.of_eq
  · next k _ => exact (hended.deskOwner k p).of_eq

theorem PanelRules.tick (h : s.PanelRules) : (tick s).PanelRules := by
  have hdesk : (tickDesk (s.setFront s.front.tick)).PanelRules := by
    unfold tickDesk
    split <;> exact h.of_eq
  unfold Machine.tick
  obtain ⟨-, hr⟩ | ⟨-, -, hr⟩ | ⟨-, hr⟩ := (tickDesk (s.setFront s.front.tick)).tickDeck_cases <;> rw [hr]
  · exact hdesk.of_eq
  · exact hdesk.of_eq
  · exact hdesk.of_eq (by simp [stallExpiry]) (by simp [stallExpiry])

end State

end Sys2Proof.Machine
end

section
/-! # The rules of every block hold after every step -/

namespace Sys2Proof.Machine

open State

/-- An event taken out of reset alone (R198). -/
theorem PanelRules.live {s : State} (h : s.PanelRules) {event : State → State}
    (he : s.PanelRules → (event s).PanelRules) : (s.live event).PanelRules := by
  unfold State.live
  split
  · exact he h
  · exact h

/-- Every command keeps the rule of both panel line units. -/
theorem exec_panelRules {c : Instr} {s t : State} (h : s.PanelRules) (hexec : exec c s = .next t) : t.PanelRules := by
  cases c
  case panelBreak l =>
    cases hexec
    dsimp only
    split
    · split
      · split
        · exact (h.setPanel (h l).takeBreak).raise _
        · exact h.setPanel (h l).takeBreak
      · exact h
    · exact h.setPanel ((h l).withLevel false)
  case panelCharacter l x y z =>
    cases hexec
    refine PanelRules.live h fun h => ?_
    split
    · exact h
    split
    · exact h.takeCharacter l _
    · exact h
  case gap l =>
    cases hexec
    refine PanelRules.live h fun h => ?_
    split
    · exact (h.setPanel (h l).gapError).raise _
    · exact h
  case askSong | dropEntry | shiftEntry | skipNow | hold | go | key | peekQueue | peekNow | peekPast | panelUnknownKind =>
    cases hexec
    exact PanelRules.live h fun h => h.takeFrame _ _ _
  case shiftCompletion l =>
    cases hexec
    exact PanelRules.live h fun h => h.setPanel (h l).completeShift
  case lineReturnsHigh l =>
    cases hexec
    split
    · exact h.setPanel (h l).returnHigh
    · exact h.setPanel ((h l).withLevel true)
  case stageOpen | line | note | stageClose | stageFail | timeMarkRun | timeMarkEnd | readDirective | ackDirective |
      readScene | repeatAnswer | mediaUnknownKind =>
    cases hexec
    exact PanelRules.live h fun h => h.takeCommand _ _ _
  case status | readEvents | ackEvents | eventMask | creditsSet | creditsAdd | creditsUnlimited | lock | unlock |
      configSet | configRead | insertPriority | promote | move | remove | stopSong | readQueue | readHistory | readBoard |
      readLineCounters | newSession | roomClear | standby | wake | deskReset | deskUnknownKind =>
    cases hexec
    exact PanelRules.live h fun h => h.takeWrite _ _
  case millisecondTick =>
    cases hexec
    split
    · exact h.tick
    · exact h.of_eq
  case stallTimerExpiry =>
    cases hexec
    refine PanelRules.live h fun h => ?_
    split
    · exact h.tick
    split
    · exact h.of_eq (by simp [stallExpiry]) (by simp [stallExpiry])
    · exact h
  case msnFall | msnRise =>
    cases hexec
    (repeat' split) <;> exact h
  case leavingReset pins =>
    cases hexec
    split
    · intro l
      cases l <;> exact PanelUnit.atReset_rule _
    · exact h
  case zeroCrossEdge m counts =>
    cases hexec
    refine PanelRules.live h fun h => ?_
    unfold takeEdge
    dsimp only
    (repeat' split) <;> first | exact h | exact h.of_eq
  case deskStartCondition | deskStopCondition =>
    cases hexec
    refine PanelRules.live h fun h => ?_
    (repeat' split) <;> exact h.of_eq rfl rfl
  case deskBusTimeout =>
    cases hexec
    refine PanelRules.live h fun h => ?_
    split
    · exact (PanelRules.of_eq (t := s.endTransaction) h rfl rfl).raise _
    · exact h
  case lyricNewSong | lyricDropSong | graderNewSong | graderFinalScores | graderSongEnded | graderDiscard |
      conversionCompletion =>
    cases hexec
    exact PanelRules.live h fun h => h.of_eq
  case startTimerExpiry | stallLimitExpiry | stopTimerExpiry | settleTimerExpiry | lyricStep | lyricRebuild | graderStep |
      graderRewind =>
    cases hexec
    refine PanelRules.live h fun h => ?_
    (repeat' split) <;> first | exact h | exact h.of_eq
  case powerOn | lowSupply | resetPin | supplyRecovery | rstnRelease =>
    cases hexec
    exact h.of_eq

/-- Every step keeps the rule of both panel line units. -/
theorem step_panelRules {s t : State} (h : s.PanelRules) (hstep : step s = .next t) : t.PanelRules := by
  cases hp : s.pending with
  | nil =>
    rw [step_empty hp] at hstep
    cases hstep
    exact PanelRules.live h fun h => h.of_eq rfl rfl
  | cons c rest =>
    rw [step_cons hp] at hstep
    exact exec_panelRules (h.of_eq (t := s.setPending rest)) hstep

/-- `Sound` is what crosses the blocks, the rules that each block keeps by itself, and the rule of the panel lines. -/
theorem sound_iff (s : State) : s.Sound ↔ s.InStep ∧ s.BlockRules ∧ s.PanelRules := by
  constructor
  · intro h
    refine ⟨⟨⟨h.room.capacity, h.results.historySize, h.deck, h.staging, h.ids⟩, h.posted⟩,
      ⟨h.room, h.settings, ⟨h.lyric, h.lyricSettings⟩, h.front, h.grader, h.results, h.standby⟩, fun l => ?_⟩
    cases l
    · exact h.panelA
    · exact h.panelB
  · rintro ⟨hi, hb, hp⟩
    exact ⟨hb.room, hp .a, hp .b, hi.deck, hb.lyric.rule, hb.front, hb.grader, hb.results, hb.settings,
      hb.lyric.settings, hi.staging, hi.posted, hi.ids, hb.standby⟩

/-- Settles O56: each of the three parts of `Sound` is kept by every step. -/
theorem stepKeepsSound : Obligations.StepKeepsSound := by
  intro s t hs hstep
  obtain ⟨hi, hb, hp⟩ := (sound_iff s).1 hs
  exact (sound_iff t).2 ⟨inStep_kept.step hi hstep, blockRules_kept.step hb hstep, step_panelRules hp hstep⟩

/-- The controller as it leaves any reset keeps every rule (R198). -/
theorem afterReset_sound (pins : BitVec 2) (s : State) : (afterReset pins s).Sound :=
  (sound_iff _).2 ⟨afterReset_inStep pins s, afterReset_blockRules pins s, fun l => by
    cases l <;> exact PanelUnit.atReset_rule _⟩

/-- Settles O55: the state after reset is what leaving it again with the address-select pins at 0 gives. -/
theorem resetMeetsSound : Obligations.ResetMeetsSound :=
  afterReset_sound 0#2 State.reset

end Sys2Proof.Machine
end

section
/-! # Submissions: ASK SONG and INSERT PRIORITY (R6 to R8) -/

namespace Sys2Proof.Machine

open State

variable {s : State}

/-! ## A request's reply and a queue event -/

@[simp] theorem requestReply_ok (kind : Byte) (payload : List Byte) :
    requestReply kind ⟨.ok, payload⟩ = ⟨0x80#8, kind :: payload⟩ := rfl

/-- A queue event asks for the new head's song where the head changes (R8, R16, R52). -/
theorem queueEvent_eq {q : RoomQueue} (hst : s.StagingRule) (hp : s.Posted) : s.queueEvent q =
    if q.headId = s.room.headId then (s.setRoom q).raise .queueChanged
    else ((s.setRoom q).raise .queueChanged).asks q.entries.head? := by
  split
  · exact queueEvent_same ‹_›
  · exact queueEvent_changed hst hp ‹_›

/-! ## What a submission does -/

theorem lineOrigin_ne_desk (l : PanelLine) : lineOrigin l ≠ .desk := by cases l <;> simp [lineOrigin]

/-- A submission that passes every check is the queue event of its entry placed, and answers the id and the position. -/
theorem submit_accepted {o : Origin} {b : Bool} {r : SongRequest} {mode : MicMode} {e : Entry} {behind : Nat}
    (hlock : o = .desk ∨ s.room.locked = false) (hcap : s.room.entries.length < 32)
    (hquota : o = .desk ∨ s.room.heldBy o < s.room.quota) (hlow : 1 ≤ r.song) (hhigh : r.song ≤ 999999)
    (hmode : r.mode = some mode) (he : e = s.room.newEntry s.idsInUse o b r mode)
    (hbehind : behind = s.room.placeBehind b) :
    s.submit o b r = (s.queueEvent (s.room.enrol e behind), ⟨.ok, [byteOf e.id, byteOf (behind + 1)]⟩) := by
  have h1 : ¬(o ≠ .desk ∧ s.room.locked = true) := by rintro ⟨ho, hl⟩; simp_all
  have h2 : ¬s.room.entries.length ≥ Config.queueCapacity := by simp; omega
  have h3 : ¬(o ≠ .desk ∧ s.room.quota ≤ s.room.heldBy o) := by
    rintro ⟨ho, hq⟩; exact absurd (hquota.resolve_left ho) (by omega)
  have h4 : ¬(r.song = 0 ∨ r.song > Config.maxSong) := by simp; omega
  unfold submit
  subst he hbehind
  rw [if_neg h1, if_neg h2, if_neg h3, if_neg h4, hmode]

theorem submit_locked {o : Origin} (ho : o ≠ .desk) (b : Bool) (r : SongRequest) (hlock : s.room.locked = true) :
    s.submit o b r = (s, .bare .locked) := if_pos ⟨ho, hlock⟩

theorem submit_full {o : Origin} (b : Bool) (r : SongRequest) (hlock : o = .desk ∨ s.room.locked = false)
    (hfull : 32 ≤ s.room.entries.length) : s.submit o b r = (s, .bare .full) := by
  unfold submit
  rw [if_neg (by rintro ⟨ho, hl⟩; simp_all), if_pos (by simpa using hfull)]

theorem submit_overQuota {o : Origin} (ho : o ≠ .desk) (b : Bool) (r : SongRequest) (hlock : s.room.locked = false)
    (hcap : s.room.entries.length < 32) (hquota : s.room.quota ≤ s.room.heldBy o) :
    s.submit o b r = (s, .bare .quota) := by
  unfold submit
  rw [if_neg (by simp [hlock]), if_neg (by simp; omega), if_pos ⟨ho, hquota⟩]

theorem submit_badField {o : Origin} (b : Bool) {r : SongRequest} (hlock : o = .desk ∨ s.room.locked = false)
    (hcap : s.room.entries.length < 32) (hquota : o = .desk ∨ s.room.heldBy o < s.room.quota)
    (hbad : r.song = 0 ∨ 999999 < r.song ∨ r.mode = none) : s.submit o b r = (s, .bare .badField) := by
  have h1 : ¬(o ≠ .desk ∧ s.room.locked = true) := by rintro ⟨ho, hl⟩; simp_all
  have h2 : ¬s.room.entries.length ≥ Config.queueCapacity := by simp; omega
  have h3 : ¬(o ≠ .desk ∧ s.room.quota ≤ s.room.heldBy o) := by
    rintro ⟨ho, hq⟩; exact absurd (hquota.resolve_left ho) (by omega)
  unfold submit
  rw [if_neg h1, if_neg h2, if_neg h3]
  split
  · rfl
  · next hsong =>
    have hmode : r.mode = none := by
      simp only [Config.maxSong, not_or] at hsong
      exact (hbad.resolve_left hsong.1).resolve_left (by omega)
    rw [hmode]

/-! ## The commands -/

theorem exec_askSong {l : PanelLine} {p : List Byte} (hs : s.Takes l) (hl : p.length = 6) :
    exec (.askSong l p) s = .next ((s.submit (lineOrigin l) false (songRequestOf p)).1.replied l
      (requestReply 0x10#8 (s.submit (lineOrigin l) false (songRequestOf p)).2)) :=
  exec_panel (k := .askSong) rfl hs hl

theorem exec_insertPriority {p : List Byte} (hs : s.AtWrite) (hl : p.length = 6) :
    exec (.insertPriority p) s = .next ((s.submit .desk true (songRequestOf p)).1.recorded
      (s.submit .desk true (songRequestOf p)).2.code 0x4B#8 (s.submit .desk true (songRequestOf p)).2.payload) :=
  exec_desk (k := .insertPriority) rfl hs hl (by simp)

theorem nextArrival_eq (n : Nat) : nextArrival n = if n < 65535 then n + 1 else 1 := by
  unfold nextArrival
  split <;> split <;> omega

/-- The entry placed last is the head only of a queue that was empty (R8, R16). -/
theorem enrol_last_headId (q : RoomQueue) (e : Entry) :
    (q.enrol e q.entries.length).headId = if q.entries = [] then some e.id else q.headId := by
  unfold RoomQueue.enrol RoomQueue.headId insertAfter
  cases q.entries <;> simp

/-- Settles O2: the queue event of the entry placed behind all others is a head change only where there was no head. -/
theorem askSongPlacesEntryLast : Obligations.AskSongPlacesEntryLast := by
  intro l p s mode e hs hst hp hl hlock hcap hquota hlow hhigh hmode he placed
  have he' : e = s.room.newEntry s.idsInUse (lineOrigin l) false (songRequestOf p) mode := by
    rw [he]
    simp [RoomQueue.newEntry, songRequestOf, clampKey, signedOf, nextArrival_eq]
  have hplaced : (s.setRoom (s.room.enrol e s.room.entries.length)).raise .queueChanged = placed := by
    simp [placed, RoomQueue.enrol, insertAfter]
  have hhead := enrol_last_headId s.room e
  rw [exec_askSong hs hl, submit_accepted (.inr hlock) hcap (.inr hquota) hlow hhigh hmode he' rfl]
  have hevent : s.queueEvent (s.room.enrol e s.room.entries.length) =
      if s.room.entries = [] then placed.asks (some e) else placed := by
    rw [queueEvent_eq hst hp, hplaced, hhead]
    by_cases hq : s.room.entries = []
    · have hnone : s.room.headId = none := RoomQueue.headId_eq_none.2 hq
      simp [hq, hnone, RoomQueue.enrol, insertAfter]
    · simp [hq]
  simp [RoomQueue.placeBehind, hevent]

/-- Settles O3, one check of the order after the other. -/
theorem submissionRefusedByFirstFailedCheck : Obligations.SubmissionRefusedByFirstFailedCheck := by
  refine ⟨fun l p s hs hl => ?_, fun p s hs hl => ?_⟩
  · have ho := lineOrigin_ne_desk l
    rw [exec_askSong hs hl]
    refine ⟨fun hlock => ?_, fun hlock hfull => ?_, fun hlock hcap hquota => ?_, fun hlock hcap hquota hbad => ?_⟩
    · rw [submit_locked ho _ _ hlock]; rfl
    · rw [submit_full _ _ (.inr hlock) hfull]; rfl
    · rw [submit_overQuota ho _ _ hlock hcap hquota]; rfl
    · rw [submit_badField _ (.inr hlock) hcap (.inr hquota) hbad]; rfl
  · rw [exec_insertPriority hs hl]
    refine ⟨fun hfull => ?_, fun hcap hbad => ?_⟩
    · rw [submit_full _ _ (.inl rfl) hfull]; rfl
    · rw [submit_badField _ (.inl rfl) hcap (.inl rfl) hbad]; rfl

/-- A list with an element put in after its first `n` has that element as its head only for `n = 0`, or an empty list. -/
theorem head?_insertAfter {α : Type} (l : List α) (n : Nat) (x : α) :
    (insertAfter l n x).head? = if n = 0 then some x else some (l.head?.getD x) := by
  unfold insertAfter
  cases n <;> cases l <;> simp

/-- Settles O4: the entry goes behind the priority block, and is a new head only where there is no such block; an entry with
a fresh id never has the head's. -/
theorem insertPriorityPlacesEntryAfterPriorityBlock : Obligations.InsertPriorityPlacesEntryAfterPriorityBlock := by
  intro p s mode e hs hst hp hl hcap hlow hhigh hmode hfresh he ahead placed
  have he' : e = s.room.newEntry s.idsInUse .desk true (songRequestOf p) mode := by
    rw [he]
    simp [RoomQueue.newEntry, songRequestOf, clampKey, signedOf, nextArrival_eq]
  have hhead : (s.room.enrol e ahead).entries.head? =
      if ahead = 0 then some e else some (s.room.entries.head?.getD e) := head?_insertAfter _ _ _
  have hevent : s.queueEvent (s.room.enrol e ahead) = if ahead = 0 then placed.asks (some e) else placed := by
    rw [queueEvent_eq hst hp, show (s.setRoom (s.room.enrol e ahead)).raise .queueChanged = placed from rfl]
    unfold RoomQueue.headId
    rw [hhead]
    cases hq : s.room.entries with
    | nil => simp [ahead, hq]
    | cons x rest =>
      have hx : e.id ≠ x.id := fun h => hfresh (by simp [hq, h])
      by_cases hz : ahead = 0 <;> simp [hz, hx]
  rw [exec_insertPriority hs hl, submit_accepted (.inl rfl) hcap (.inl rfl) hlow hhigh hmode he' rfl]
  have hbehind : s.room.placeBehind true = ahead := rfl
  simp [hbehind, hevent]

end Sys2Proof.Machine
end

section
/-! # Entries taken out, moved and promoted (R9 to R13) -/

namespace Sys2Proof.Machine

open State

variable {s : State}

namespace RoomQueue

variable {q : RoomQueue} {i : Nat}

theorem remove_eq (h : (q.entries.map (·.id)).Nodup) :
    q.remove i = { q with entries := q.entries.filter (·.id != i) } := by
  simp only [remove, entriesWithout, eraseP_eq_filter h]

theorem moveTo_eq (h : (q.entries.map (·.id)).Nodup) (e : Entry) (position : Nat) : q.moveTo e position =
    { q with entries := insertAfter (q.entries.filter (·.id != e.id)) (position - 1) e } := by
  simp only [moveTo, entriesWithout, eraseP_eq_filter h]

theorem promoteEntry_eq (h : (q.entries.map (·.id)).Nodup) {e : Entry} (hid : e.id = i) : q.promoteEntry e = { q with
    entries := insertAfter (q.entries.filter (·.id != i)) q.priorityCount { e with priority := true } } := by
  simp only [promoteEntry, entriesWithout, eraseP_eq_filter h, ← hid]

/-- An entry taken out leaves the head where it was, unless it was the head (R16). -/
theorem remove_headId_eq (h : (q.entries.map (·.id)).Nodup) (hi : i ∈ q.entries.map (·.id)) :
    (q.remove i).headId = q.headId ↔ q.headId ≠ some i := by
  rw [remove_eq h]
  unfold headId
  cases hq : q.entries with
  | nil => simp [hq] at hi
  | cons x rest =>
    rw [hq, List.map_cons, List.nodup_cons] at h
    by_cases hx : x.id = i
    · subst hx
      have hfilter : ∀ y ∈ (rest.filter (·.id != x.id)).head?, y.id ≠ x.id := fun y hy =>
        fun hid => by simpa [hid] using (List.mem_filter.1 (List.mem_of_mem_head? hy)).2
      simpa using hfilter
    · simp [hx]

/-- The place of an entry is the position of its id, where no id stands twice. -/
theorem positionOf_getElem? (h : (q.entries.map (·.id)).Nodup) {j : Nat} {e : Entry} (he : q.entries[j]? = some e) :
    q.positionOf e.id = j + 1 := by
  unfold positionOf
  obtain ⟨hj, rfl⟩ := List.getElem?_eq_some_iff.1 he
  refine congrArg (· + 1) ((List.findIdx_eq hj).2 ⟨by simp, fun k hk => ?_⟩)
  have hne : (q.entries.map (·.id))[k]'(by simp; omega) ≠ (q.entries.map (·.id))[j]'(by simpa) := fun heq =>
    absurd ((List.Nodup.getElem_inj_iff h).1 heq) (by omega)
  simpa using hne

/-- The clamped target where the queue holds a normal entry (R11). -/
theorem moveTarget_eq {e : Entry} (he : e ∈ q.entries) (hp : e.priority = false) (target : Nat) :
    q.moveTarget target = if target < q.priorityCount + 1 then q.priorityCount + 1
      else if q.entries.length < target then q.entries.length else target := by
  have := priorityCount_lt he hp
  unfold moveTarget clamp
  (repeat' split) <;> omega

end RoomQueue

/-! ## What each request does with the entry it names -/

theorem find_eq_of_mem (h : (s.room.entries.map (·.id)).Nodup) {e : Entry} {i : Nat} (he : e ∈ s.room.entries)
    (hid : e.id = i) : s.room.find i = some e := hid ▸ find_of_mem h he

theorem mem_ids {l : List Entry} {e : Entry} {i : Nat} (he : e ∈ l) (hid : e.id = i) : i ∈ l.map (·.id) :=
  hid ▸ List.mem_map_of_mem he

theorem cancel_notFound (o : Origin) {i : Nat} (h : i ∉ s.room.entries.map (·.id)) :
    s.cancel o i = (s, .bare .notFound) := by
  unfold cancel; rw [find_of_not_mem h]

theorem cancel_found (o : Origin) {e : Entry} {i : Nat} (h : s.room.find i = some e) : s.cancel o i =
    if e.origin ≠ o then (s, .bare .notYours) else (s.queueEvent (s.room.remove i), .bare .ok) := by
  unfold cancel; rw [h]

theorem removeId_notFound {i : Nat} (h : i ∉ s.room.entries.map (·.id)) : s.removeId i = (s, .bare .notFound) := by
  unfold removeId; rw [find_of_not_mem h]

theorem removeId_found {e : Entry} {i : Nat} (h : s.room.find i = some e) :
    s.removeId i = (s.queueEvent (s.room.remove i), .bare .ok) := by
  unfold removeId; rw [h]

theorem panelMove_notFound (o : Origin) {i : Nat} (hlock : s.room.locked = false) (h : i ∉ s.room.entries.map (·.id))
    (target : Nat) : s.panelMove o i target = (s, .bare .notFound) := by
  unfold panelMove; simp only [hlock, find_of_not_mem h]; rfl

theorem panelMove_found (o : Origin) {e : Entry} {i : Nat} (hlock : s.room.locked = false) (h : s.room.find i = some e)
    (target : Nat) : s.panelMove o i target = if e.origin ≠ o then (s, .bare .notYours)
      else if e.priority then (s, .bare .badField) else s.moveEntry e target := by
  unfold panelMove; simp only [hlock, h]; rfl

theorem deskMove_notFound {i : Nat} (h : i ∉ s.room.entries.map (·.id)) (target : Nat) :
    s.deskMove i target = (s, .bare .notFound) := by
  unfold deskMove; rw [find_of_not_mem h]

theorem deskMove_found {e : Entry} {i : Nat} (h : s.room.find i = some e) (target : Nat) :
    s.deskMove i target = if e.priority then (s, .bare .badField) else s.moveEntry e target := by
  unfold deskMove; rw [h]

theorem promoteId_notFound {i : Nat} (h : i ∉ s.room.entries.map (·.id)) : s.promoteId i = (s, .bare .notFound) := by
  unfold promoteId; rw [find_of_not_mem h]

theorem promoteId_found {e : Entry} {i : Nat} (h : s.room.find i = some e) : s.promoteId i =
    if e.priority then (s, ⟨.ok, [byteOf (s.room.positionOf i)]⟩)
    else (s.queueEvent (s.room.promoteEntry e), ⟨.ok, [byteOf (s.room.priorityCount + 1)]⟩) := by
  unfold promoteId; rw [h]

/-- The queue event of an entry taken out: the next head, or none, is named where the head goes (R9, R13, R16). -/
theorem queueEvent_remove (hst : s.StagingRule) (hp : s.Posted) (h : (s.room.entries.map (·.id)).Nodup) {i : Nat}
    (hi : i ∈ s.room.entries.map (·.id)) : s.queueEvent (s.room.remove i) =
      if s.room.headId = some i then
        ((s.setRoom (s.room.remove i)).raise .queueChanged).asks (s.room.remove i).entries.head?
      else (s.setRoom (s.room.remove i)).raise .queueChanged := by
  have hhead := RoomQueue.remove_headId_eq h hi
  rw [queueEvent_eq hst hp]
  by_cases hgoes : s.room.headId = some i
  · rw [if_neg (fun hsame => hhead.1 hsame hgoes), if_pos hgoes]
  · rw [if_pos (hhead.2 hgoes), if_neg hgoes]

/-! ## The commands -/

theorem exec_dropEntry {l : PanelLine} {p : List Byte} (hs : s.Takes l) (hl : p.length = 1) :
    exec (.dropEntry l p) s = .next ((s.cancel (lineOrigin l) (byteAt p 0).toNat).1.replied l
      (requestReply 0x11#8 (s.cancel (lineOrigin l) (byteAt p 0).toNat).2)) :=
  exec_panel (k := .dropEntry) rfl hs hl

theorem exec_remove {p : List Byte} (hs : s.AtWrite) (hl : p.length = 1) :
    exec (.remove p) s = .next ((s.removeId (byteAt p 0).toNat).1.recorded
      (s.removeId (byteAt p 0).toNat).2.code 0x4E#8 (s.removeId (byteAt p 0).toNat).2.payload) :=
  exec_desk (k := .remove) rfl hs hl (by simp)

theorem exec_shiftEntry {l : PanelLine} {p : List Byte} (hs : s.Takes l) (hl : p.length = 2) :
    exec (.shiftEntry l p) s = .next
      ((s.panelMove (lineOrigin l) (byteAt p 0).toNat (byteAt p 1).toNat).1.replied l
        (requestReply 0x12#8 (s.panelMove (lineOrigin l) (byteAt p 0).toNat (byteAt p 1).toNat).2)) :=
  exec_panel (k := .shiftEntry) rfl hs hl

theorem exec_move {p : List Byte} (hs : s.AtWrite) (hl : p.length = 2) :
    exec (.move p) s = .next ((s.deskMove (byteAt p 0).toNat (byteAt p 1).toNat).1.recorded
      (s.deskMove (byteAt p 0).toNat (byteAt p 1).toNat).2.code 0x4D#8
      (s.deskMove (byteAt p 0).toNat (byteAt p 1).toNat).2.payload) :=
  exec_desk (k := .move) rfl hs hl (by simp)

theorem exec_promote {p : List Byte} (hs : s.AtWrite) (hl : p.length = 1) :
    exec (.promote p) s = .next ((s.promoteId (byteAt p 0).toNat).1.recorded
      (s.promoteId (byteAt p 0).toNat).2.code 0x4C#8 (s.promoteId (byteAt p 0).toNat).2.payload) :=
  exec_desk (k := .promote) rfl hs hl (by simp)

/-- Settles O5: the entry that carries the id is the only one taken out, and the head goes exactly where it carries it. -/
theorem dropEntryAndRemoveTakeEntryOut : Obligations.DropEntryAndRemoveTakeEntryOut := by
  intro p s hl hnodup i rest removed taken
  have htaken : i ∈ s.room.entries.map (·.id) → s.StagingRule → s.Posted → s.queueEvent (s.room.remove i) = taken := by
    intro hi hst hp
    rw [queueEvent_remove hst hp hnodup hi, RoomQueue.remove_eq hnodup]
    rfl
  refine ⟨fun l hs => ?_, fun hs => ?_⟩
  · rw [exec_dropEntry hs hl]
    refine ⟨fun hi => ?_, fun e he hid ho => ?_, fun e he hid ho hst hp => ?_⟩
    · rw [cancel_notFound _ hi]; rfl
    · rw [cancel_found _ (find_eq_of_mem hnodup he hid), if_pos ho]; rfl
    · rw [cancel_found _ (find_eq_of_mem hnodup he hid), if_neg (not_not.2 ho), ← htaken (mem_ids he hid) hst hp]; rfl
  · rw [exec_remove hs hl]
    refine ⟨fun hi => ?_, fun hi hst hp => ?_⟩
    · rw [removeId_notFound hi]; rfl
    · obtain ⟨e, he, hid⟩ := List.mem_map.1 hi
      rw [removeId_found (find_eq_of_mem hnodup he hid), ← htaken hi hst hp]; rfl

/-- Settles O6, one check of the order after the other. -/
theorem moveRefusedByFirstFailedCheck : Obligations.MoveRefusedByFirstFailedCheck := by
  intro p s hl hnodup i
  refine ⟨fun l hs => ?_, fun hs => ?_⟩
  · rw [exec_shiftEntry hs hl]
    refine ⟨fun hlock => ?_, fun hlock hi => ?_, fun hlock e he hid ho => ?_, fun hlock e he hid ho hprio => ?_⟩
    · rw [show s.panelMove _ _ _ = (s, .bare .locked) from if_pos hlock]; rfl
    · rw [panelMove_notFound _ hlock hi]; rfl
    · rw [panelMove_found _ hlock (find_eq_of_mem hnodup he hid), if_pos ho]; rfl
    · rw [panelMove_found _ hlock (find_eq_of_mem hnodup he hid), if_neg (not_not.2 ho), if_pos hprio]; rfl
  · rw [exec_move hs hl]
    refine ⟨fun hi => ?_, fun e he hid hprio => ?_⟩
    · rw [deskMove_notFound hi]; rfl
    · rw [deskMove_found (find_eq_of_mem hnodup he hid), if_pos hprio]; rfl

/-- A move of the entry at position `j + 1`: nothing at its own position, and else the queue event of the entry put back at
the clamped target (R11). -/
theorem moveEntry_eq (h : (s.room.entries.map (·.id)).Nodup) {e : Entry} {j : Nat} (he : s.room.entries[j]? = some e)
    {target position : Nat} (hposition : s.room.moveTarget target = position) : s.moveEntry e target =
      (if position = j + 1 then s else s.queueEvent (s.room.moveTo e position), ⟨.ok, [byteOf position]⟩) := by
  unfold moveEntry
  rw [hposition, RoomQueue.positionOf_getElem? h he]

/-- Settles O7: the target is clamped to the places behind the priority block, and both lines move alike. -/
theorem movePutsEntryAtClampedTarget : Obligations.MovePutsEntryAtClampedTarget := by
  intro p s e j hl hnodup hst hp he hid hprio first target position others order moved taken
  have hmem := List.mem_of_getElem? he
  have hposition : s.room.moveTarget target = position := RoomQueue.moveTarget_eq hmem hprio target
  have hmove : s.moveEntry e target = (taken, ⟨.ok, [byteOf position]⟩) := by
    rw [moveEntry_eq hnodup he hposition, queueEvent_eq hst hp, RoomQueue.moveTo_eq hnodup]
    rfl
  have hfind := find_eq_of_mem hnodup hmem hid
  refine ⟨fun l hs hlock ho => ?_, fun hs => ?_⟩
  · rw [exec_shiftEntry hs hl, panelMove_found _ hlock hfind, if_neg (not_not.2 ho), hprio, if_neg (by simp), hmove]
    rfl
  · rw [exec_move hs hl, deskMove_found hfind, hprio, if_neg (by simp), hmove]

/-- Settles O8: a normal entry goes behind the priority block, whose entries stay where they are. -/
theorem promoteMakesLastPriorityEntry : Obligations.PromoteMakesLastPriorityEntry := by
  intro p s hs hl hnodup i ahead
  rw [exec_promote hs hl]
  refine ⟨fun hi => ?_, fun j e he hid hprio => ?_, fun e he hid hprio hst hp => ?_⟩
  · rw [promoteId_notFound hi]; rfl
  · have hposition := RoomQueue.positionOf_getElem? hnodup he
    rw [promoteId_found (find_eq_of_mem hnodup (List.mem_of_getElem? he) hid), if_pos hprio, ← hid, hposition]
  · intro others order promoted taken
    have htaken : s.queueEvent (s.room.promoteEntry e) = taken := by
      rw [queueEvent_eq hst hp, RoomQueue.promoteEntry_eq hnodup hid]
      rfl
    rw [promoteId_found (find_eq_of_mem hnodup he hid), hprio, if_neg (by simp), htaken]
    rfl

end Sys2Proof.Machine
end

section
/-! # The account, the lock and the queue pages (R15, R18 to R21) -/

namespace Sys2Proof.Machine

open State

variable {s : State}

/-! ## The account (R18, R20, R70) -/

theorem setCredits_eq (q : RoomQueue) (value : Nat) : q.setCredits value = { q with
    credits := if 999 < value then 999 else value, shortage := q.shortage && value == 0 } := by
  have h : min value Config.maxCredits = if 999 < value then 999 else value := by simp; split <;> omega
  simp only [RoomQueue.setCredits, h]

theorem addCredits_eq (q : RoomQueue) (amount : Nat) : q.addCredits amount = { q with
    credits := if 999 < q.credits + amount then 999 else q.credits + amount
    shortage := q.shortage && amount == 0 } := by
  have h : min (q.credits + amount) Config.maxCredits = if 999 < q.credits + amount then 999 else q.credits + amount := by
    simp; split <;> omega
  simp only [RoomQueue.addCredits, h]

/-- An IDLE deck's directive, where it is as posted, plays nothing (R69). -/
theorem playOrder_of_idle (hp : s.Posted) (h : s.deck.state = .idle) : s.port.directive.playOrder = .none := by
  rw [(posted_play hp).1, Deck.playOrder, h]

theorem setRoom_reexamined (hp : s.Posted) (q : RoomQueue) : (s.setRoom q).Reexamined (s.setRoom q).reexamineEvent :=
  reexamineEvent_spec fun h => by simpa using playOrder_of_idle hp (by simpa using h)

theorem accountEvent_same {q : RoomQueue} (hc : q.credits = s.room.credits) (hu : q.unlimited = s.room.unlimited) :
    s.accountEvent q = s.setRoom q := if_pos ⟨hc, hu⟩

theorem accountEvent_changed {q : RoomQueue} (h : q.credits ≠ s.room.credits ∨ q.unlimited ≠ s.room.unlimited) :
    s.accountEvent q = (s.setRoom q).reexamineEvent := if_neg fun ⟨hc, hu⟩ => h.elim (· hc) (· hu)

/-- What an account command brings about: the account, re-examined where it changed (R18, R70). -/
theorem accountEvent_spec (hp : s.Posted) (q : RoomQueue) :
    (q.credits = s.room.credits → q.unlimited = s.room.unlimited → s.accountEvent q = s.setRoom q) ∧
    (q.credits ≠ s.room.credits ∨ q.unlimited ≠ s.room.unlimited → (s.setRoom q).Reexamined (s.accountEvent q)) :=
  ⟨accountEvent_same, fun h => by rw [accountEvent_changed h]; exact setRoom_reexamined hp q⟩

/-- Settles O9: each account command is the account event of its room. -/
theorem accountAndLockCommands : Obligations.AccountAndLockCommands := by
  intro p s hs hp amount on set added unlimited Taken
  have htaken : ∀ (c : Instr) (kind : Byte) (room : RoomQueue), exec c s = .next ((s.accountEvent room).recorded .ok kind
      room.accountPayload) → Taken c kind room := fun c kind room h => ⟨s.accountEvent room, h, accountEvent_spec hp room⟩
  have hset : s.room.setCredits amount = set := setCredits_eq _ _
  have hadded : s.room.addCredits amount = added := addCredits_eq _ _
  refine ⟨fun hl => htaken _ _ _ ?_, fun hl => htaken _ _ _ ?_, fun hl => htaken _ _ _ ?_, ?_,
    (s.setRoom { s.room with locked := false }).reexamineEvent, ?_, setRoom_reexamined hp _⟩
  · rw [← hset]
    exact exec_desk (k := .creditsSet) rfl hs hl (by simp)
  · rw [← hadded]
    exact exec_desk (k := .creditsAdd) rfl hs hl (by simp)
  · exact exec_desk (k := .creditsUnlimited) rfl hs hl (by simp)
  · exact exec_desk (k := .lock) rfl hs rfl (by simp)
  · exact exec_desk (k := .unlock) rfl hs rfl (by simp)

/-! ## Queue pages (R15) -/

theorem drop_take_zipIdx {α : Type} (l : List α) (n size : Nat) :
    ((l.zipIdx 1).drop n).take size = ((l.drop n).take size).zipIdx (n + 1) := by
  refine List.ext_getElem? fun i => ?_
  simp only [List.getElem?_take, List.getElem?_drop, List.getElem?_zipIdx]
  rw [show 1 + (n + i) = n + 1 + i by omega]
  split <;> rfl

/-- The entries of a page are those from position `first` on, numbered from there (R15). -/
theorem page_eq (q : RoomQueue) {first : Nat} (h : 1 ≤ first) (size : Nat) :
    q.page first size = (((q.entries.drop (first - 1)).take size).zipIdx first).map fun x => (x.2, x.1) := by
  unfold RoomQueue.page
  rw [drop_take_zipIdx, max_eq_left h, Nat.sub_add_cancel h]

/-- Position 0 is taken as 1 (R15). -/
theorem page_first (q : RoomQueue) (k size : Nat) : q.page k size = q.page (if k = 0 then 1 else k) size := by
  split
  · next h => rw [h]; rfl
  · rfl

/-- A queue page, byte by byte (R42, R203). -/
theorem pageBytes_eq (q : RoomQueue) (k size : Nat) :
    let first := if k = 0 then 1 else k
    let shown := (q.entries.drop (first - 1)).take size
    q.pageBytes k size = byteOf q.entries.length :: byteOf shown.length ::
      (shown.zipIdx first).flatMap fun x => RoomQueue.entryBytes x.2 x.1 := by
  intro first shown
  have hfirst : 1 ≤ first := by simp only [first]; split <;> omega
  unfold RoomQueue.pageBytes
  rw [page_first, page_eq q hfirst]
  simp [List.flatMap_map, shown]

/-- Settles O10: both lines carry the same page, at their own sizes. -/
theorem queuePages : Obligations.QueuePages := by
  intro p s hl first entry page
  have hpage : ∀ size, s.room.pageBytes (byteAt p 0).toNat size = page size := fun size =>
    pageBytes_eq s.room (byteAt p 0).toNat size
  refine ⟨fun l hs => ?_, fun hs => ?_⟩
  · rw [← hpage]
    exact exec_panel (k := .peekQueue) rfl hs hl
  · rw [← hpage]
    exact exec_desk (k := .readQueue) rfl hs hl (by simp)

end Sys2Proof.Machine
end

section
/-! # STAGE FAIL and RUN marks (R62, R72, R77, R79, R83, R91) -/

namespace Sys2Proof.Machine

open State

variable {s : State}

/-! ## STAGE FAIL (R14, R62) -/

/-- An entry that was not played adds a record, and never reaches the board (R163, R165). -/
theorem addRecord_ungraded (e : Entry) (o : SongOutcome) : s.addRecord (ungradedRecord e o) =
    (s.setResults { s.results with
      history := ({ ungradedRecord e o with finish := s.results.nextFinish } :: s.results.history).take 16
      counter := s.results.nextFinish }).raise .songDone := by
  have hinserts : s.results.inserts (ungradedRecord e o) = false := by
    simp [Results.inserts, HistoryRecord.qualifies, ungradedRecord]
  unfold addRecord
  rw [hinserts]
  simp [Results.add, hinserts]

theorem nextFinish_eq (v : Results) : v.nextFinish = if v.counter < 65535 then v.counter + 1 else 65535 := by
  unfold Results.nextFinish
  split <;> omega

theorem isStale_iff (st : SongStore) (i : Nat) : st.isStale i = true ↔ st.state = .empty ∨ st.owner ≠ some i := by
  simp [SongStore.isStale]

/-- A queue without its head's entry (R1). -/
theorem remove_head {q : RoomQueue} {e : Entry} {rest : List Entry} (h : q.entries = e :: rest) :
    q.remove e.id = { q with entries := rest } := by
  simp [RoomQueue.remove, RoomQueue.entriesWithout, h]

/-- The head taken out of a queue without a repeated id is a head change (R16). -/
theorem headId_rest_ne {q : RoomQueue} {e : Entry} {rest : List Entry} (h : q.entries = e :: rest)
    (hnodup : (q.entries.map (·.id)).Nodup) : { q with entries := rest }.headId ≠ q.headId := by
  rw [h, List.map_cons, List.nodup_cons] at hnodup
  unfold RoomQueue.headId
  rw [h]
  intro heq
  obtain ⟨x, hx, hid⟩ := Option.map_eq_some_iff.1 heq
  exact hnodup.1 (List.mem_map.2 ⟨x, List.mem_of_mem_head? hx, hid⟩)

theorem exec_stageFail {p : List Byte} {check : Byte} (hs : s.AtCheck) (hsum : SumsToZero 0x05#8 p check)
    (hl : p.length = 2) : exec (.stageFail p check) s = .next ((s.stageFailEvent (byteAt p 0).toNat).1.answered
      (s.stageFailEvent (byteAt p 0).toNat).2.code (s.stageFailEvent (byteAt p 0).toNat).2.payload) :=
  exec_media (k := .stageFail) rfl hs hsum (by simp [MediaKind.lengthFits, hl]) (by omega)

/-- Settles O21: staging prepares the head, so the entry that a STAGE FAIL takes out is the head. -/
theorem stageFailRemovesHead : Obligations.StageFailRemovesHead := by
  intro p check s hs hsum hl hst hp hnodup
  rw [exec_stageFail hs hsum hl]
  refine ⟨fun hstale => ?_, ?_⟩
  · unfold stageFailEvent
    rw [if_pos ((isStale_iff _ _).2 hstale)]
    rfl
  · intro e rest he hid finish record removed
    have howner : s.store.owner = some e.id := by rw [hst.owner]; simp [RoomQueue.headId, he]
    have hstate : s.store.state ≠ .empty := fun h => by simp [hst.empty.1 h] at he
    have hfresh : ¬s.store.isStale e.id = true := by rw [isStale_iff]; simp [hstate, howner]
    have hfind : s.room.find e.id = some e := find_of_mem hnodup (by simp [he])
    have hadd := addRecord_ungraded (s := s) e .noStage
    have hst' : (s.addRecord (ungradedRecord e .noStage)).StagingRule := hst.of_eq (by simp) (by simp)
    have hp' : (s.addRecord (ungradedRecord e .noStage)).Posted := by
      unfold Posted at *
      simpa [directiveNow, ownerSong] using hp
    have hevent : (s.addRecord (ungradedRecord e .noStage)).queueEvent (s.room.remove e.id) = removed := by
      rw [remove_head he, queueEvent_changed hst' hp' (by simpa using headId_rest_ne he hnodup), hadd]
      have hrecord : { ungradedRecord e .noStage with finish := s.results.nextFinish } = record := by
        rw [nextFinish_eq]; rfl
      rw [hrecord, nextFinish_eq]
      rfl
    rw [← hid]
    unfold stageFailEvent
    rw [if_neg hfresh, hfind]
    simp only [hevent, stagingAnswer]

/-! ## RUN marks (R72, R77, R79) -/

theorem exec_timeMarkRun {p : List Byte} {check : Byte} (hs : s.AtCheck) (hsum : SumsToZero 0x06#8 p check)
    (hl : p.length = 5) : exec (.timeMarkRun p check) s = .next
      ((s.takeMark (byteAt p 0).toNat (fieldAt p 1 3) (byteAt p 4)).1.answered
        (s.takeMark (byteAt p 0).toNat (fieldAt p 1 3) (byteAt p 4)).2.code
        (s.takeMark (byteAt p 0).toNat (fieldAt p 1 3) (byteAt p 4)).2.payload) :=
  exec_media (k := .timeMark) rfl hs hsum (by simp [MediaKind.lengthFits, hl]) (by omega)

/-- A RUN mark for the stop id at a time in range is taken as the deck's state says, and answered with the deck's state
(R79, section 11.4). -/
theorem takeMark_run {t : State} {code : ResultCode} {m time : Nat} {state : DeckState} (hidle : s.deck.state ≠ .idle) (hm : m ≤ 3599999)
    (hrun : s.takeRun m = (t, code)) (hid : t.deck.stopId = s.deck.stopId) (hstate : t.deck.state = state)
    (htime : t.deck.playTime = time) : s.takeMark s.deck.stopId m 1#8 = (t, ⟨code, [state.code, byteOf s.deck.stopId, byteOf (time / 65536),
      byteOf (time / 256), byteOf time]⟩) := by
  unfold takeMark
  rw [if_neg (by simp [hidle]), if_neg (by simp; omega)]
  simp only [markKindOf, if_true, hrun]
  rw [← hid, ← hstate, ← htime]
  rfl

theorem handAdvance_eq (s : State) (kind : AdvanceKind) : s.handAdvance kind = s.handed ⟨kind, s.deck.playTime⟩ := rfl

namespace Deck

variable {d : Deck} {m : Nat}

theorem playTime_of_not_playing (h : d.state ≠ .playing) : d.playTime = d.floor := if_neg h

/-- Play time directly after the first mark is its media time (R72). -/
theorem firstMark_playTime (hm : m ≤ 3599999) : (d.firstMark m).playTime = m := by
  simp [playTime, firstMark, hm]

theorem playTime_le_of_floor (h : d.floor ≤ 3599999) : d.playTime ≤ 3599999 := by
  unfold playTime
  split
  · exact Nat.min_le_right _ _
  · exact h

/-- Play time directly after a RUN mark is the floor that the mark set (R75, R77). -/
theorem runMark_playTime (h : d.floor ≤ 3599999) (hm : m ≤ 3599999) : (d.runMark m).playTime = d.markFloor m := by
  have hnow := playTime_le_of_floor h
  have hfloor : m ≤ d.markFloor m ∧ d.markFloor m ≤ 3599999 := by unfold markFloor; split <;> omega
  simp [playTime, runMark]
  omega

theorem markFloor_eq : d.markFloor m =
    if d.playTime ≤ m then m else if d.playTime - m ≤ 250 then d.playTime else m := by
  unfold markFloor
  simp only [Config.holdBack]
  (repeat' split) <;> omega

theorem markKind_eq : d.markKind m = if d.playTime ≤ m then (if 1000 < m - d.playTime then .jump else .step)
    else if d.playTime - m ≤ 250 then .step else .rewind := rfl

end Deck

theorem takeCredit_eq (q : RoomQueue) : q.takeCredit =
    { q with credits := if q.unlimited = false ∧ 1 ≤ q.credits then q.credits - 1 else q.credits } := by
  unfold RoomQueue.takeCredit
  by_cases h : q.unlimited = false ∧ 1 ≤ q.credits
  · simp [h]
  · rw [if_neg (by simpa using h), if_neg h]

/-- The first mark: play begins at its media time, a credit is taken, and both followers are handed the rise from 0 (R19,
R72). -/
theorem takeRun_starting {m : Nat} (h : s.deck.state = .starting) (hm : m ≤ 3599999) : s.takeRun m =
    (((s.setDeck (s.deck.firstMark m)).setRoom s.room.takeCredit).handed ⟨Deck.riseKind 0 m, m⟩, .ok) := by
  unfold takeRun
  rw [h]
  dsimp only
  rw [handAdvance_eq]
  simp only [setRoom_deck, setDeck_deck, setDeck_room, Deck.firstMark_playTime hm]

/-- A RUN mark taken by a deck that plays or has stalled: the advance it hands, and the play time it leaves (R77). -/
theorem takeRun_playing {m : Nat} (h : s.deck.state = .playing ∨ s.deck.state = .stalled)
    (hfloor : s.deck.floor ≤ 3599999) (hm : m ≤ 3599999) : s.takeRun m =
      ((s.setDeck (s.deck.runMark m)).handed ⟨s.deck.markKind m, s.deck.markFloor m⟩, .ok) := by
  unfold takeRun
  rcases h with h | h <;> rw [h] <;> dsimp only <;> rw [handAdvance_eq] <;>
    simp only [setDeck_deck, Deck.runMark_playTime hfloor hm]

theorem takeRun_paused {m : Nat} (h : s.deck.state = .paused) :
    s.takeRun m = (s.setDeck (s.deck.pausedMark m), .ok) := by
  unfold takeRun; rw [h]

theorem takeRun_stopping {m : Nat} (h : s.deck.state = .stopping) :
    s.takeRun m = (s, if s.deck.reached then .ok else .stale) := by
  unfold takeRun; rw [h]

/-- Settles O23, one state of the deck after the other; in PLAYING and STALLED one way to move play time after the other. -/
theorem runMarkInEachState : Obligations.RunMarkInEachState := by
  intro p check s hs hsum hl hkind hid hfloor m now answer playing hm
  rw [exec_timeMarkRun hs hsum hl, hkind, hid]
  refine ⟨fun hd => ?_, fun hd => ?_, fun hd => ?_, fun hd => ?_⟩
  · rw [takeMark_run (by simp [hd]) hm (takeRun_starting hd hm) rfl rfl (Deck.firstMark_playTime hm), takeCredit_eq]
    rfl
  · intro marked
    have hidle : s.deck.state ≠ .idle := by rcases hd with hd | hd <;> simp [hd]
    have hmarked : ∀ kind floor, s.deck.markKind m = kind → s.deck.markFloor m = floor →
        (s.takeMark s.deck.stopId m 1#8).1.answered (s.takeMark s.deck.stopId m 1#8).2.code
          (s.takeMark s.deck.stopId m 1#8).2.payload = marked kind floor := by
      rintro _ _ rfl rfl
      rw [takeMark_run hidle hm (takeRun_playing hd hfloor hm) rfl rfl (Deck.runMark_playTime hfloor hm)]
      rfl
    refine congrArg _ ?_
    split
    · next h => exact hmarked _ _ (by rw [Deck.markKind_eq, if_pos h]) (by rw [Deck.markFloor_eq, if_pos h])
    split
    · next h h' =>
      exact hmarked _ _ (by rw [Deck.markKind_eq, if_neg h, if_pos h'])
        (by rw [Deck.markFloor_eq, if_neg h, if_pos h'])
    · next h h' =>
      exact hmarked _ _ (by rw [Deck.markKind_eq, if_neg h, if_neg h'])
        (by rw [Deck.markFloor_eq, if_neg h, if_neg h'])
  · rw [takeMark_run (by simp [hd]) hm (takeRun_paused hd) rfl hd
      (Deck.playTime_of_not_playing (by simp [Deck.pausedMark, hd]))]
    rfl
  · rw [takeMark_run (by simp [hd]) hm (takeRun_stopping hd) rfl hd rfl]
    rfl

end Sys2Proof.Machine
end

section
/-! # NEW SESSION, ROOM CLEAR and the leaving of reset (R168, R169, R198, R202) -/

namespace Sys2Proof.Machine

open State

variable {s : State}

/-! ## ROOM CLEAR (R23, R52, R65, R92, R169, R202) -/

/-- The playing bank is not the one that a discard clears (R47, R48). -/
theorem SongStore.emptied_playing (st : SongStore) : st.emptied.playing = st.playing := by
  unfold SongStore.emptied SongStore.playing
  cases h : st.stagingIsBank0 <;> simp

/-- What ROOM CLEAR does to the queue and to staging, before the deck's part. -/
def State.unqueued (s : State) : State :=
  ((s.setRoom s.room.cleared).raise .queueChanged).setStore { s.store.emptied with state := .empty, owner := none }

/-- ROOM CLEAR: the queue and staging, the deck's part, the results, and the posting (R202). -/
theorem roomClearEvent_eq (hst : s.StagingRule) : s.roomClearEvent =
    ((s.unqueued.clearDeck.setResults { s.results with history := [], board := [] }).raise .boardChanged).post := by
  have howner : s.store.state = .empty → s.store.owner = none := fun h => by
    rw [hst.owner, RoomQueue.headId_eq_none]
    exact hst.empty.1 h
  have hstaged : ((s.setRoom s.room.cleared).raise .queueChanged).setStore
      (((s.setRoom s.room.cleared).raise .queueChanged).store.nameHead none) = s.unqueued := by
    rw [raise_store, setRoom_store, nameHead_eq hst.bank howner]
    rfl
  have hresults : s.unqueued.clearDeck.results = s.results := by simp [unqueued]
  unfold roomClearEvent
  dsimp only
  rw [hstaged, hresults]
  rfl

/-- ROOM CLEAR at a deck that holds a song: what the deck and the followers are left with (R92, R115, R158). -/
theorem clearDeck_held {e : Entry} (hi : s.deck.state ≠ .idle) (hs : s.deck.state ≠ .stopping)
    (he : s.deck.current = some e) : s.clearDeck =
      ((s.setDeck { s.deck with
        state := .stopping, current := some { e with id := 0 }, reached := false, floor := s.deck.playTime
        startTimer := none, stallTimer := none, stallLimit := none, stopTimer := some 2000 }).setLyric
        (s.lyric.takeAll s.store.playing).dropSong).setGrader Grader.atReset := by
  obtain ⟨h, -⟩ | ⟨h, -⟩ | ⟨-, -, hclear⟩ := clearDeck_cases s
  · exact absurd h hi
  · exact absurd h hs
  have hdeck : { s.deck.enterStopping.finishEntry with reached := false } = { s.deck with
      state := .stopping, current := some { e with id := 0 }, reached := false, floor := s.deck.playTime
      startTimer := none, stallTimer := none, stallLimit := none, stopTimer := some 2000 } := by
    simp [Deck.finishEntry, Deck.enterStopping, Deck.freeze, Deck.disarm, he]
  have hgrader : (s.grader.takeAll s.store.playing.notes s.deck.key).discard = Grader.atReset := by
    simp [Grader.discard, Grader.atReset, grader_takeAll_inbox]
  rw [hclear, hdeck, ← hgrader]
  rfl

/-- A ROOM CLEAR whose deck's part leads to `t`, and whose directive is then `d`. -/
theorem exec_roomClear {t : State} {d : DirectiveFields} (hs : s.AtWrite) (hst : s.StagingRule)
    (hclear : s.unqueued.clearDeck = t)
    (hd : ((t.setResults { s.results with history := [], board := [] }).raise .boardChanged).directiveNow = d) :
    exec (.roomClear []) s = .next ((((t.setResults { s.results with history := [], board := [] }).raise
      .boardChanged).posting d).recorded .ok 0x55#8 []) := by
  have hexec : exec (.roomClear []) s = .next (s.roomClearEvent.recorded .ok 0x55#8 []) :=
    exec_desk (k := .roomClear) rfl hs rfl (by simp)
  rw [hexec, roomClearEvent_eq hst, hclear, post_of_directiveNow hd]

theorem exec_newSession (hs : s.AtWrite) : exec (.newSession []) s = .next ((if s.results.board.isEmpty then
    s.setResults Results.newSession else (s.setResults Results.newSession).raise .boardChanged).recorded .ok 0x54#8 []) :=
  exec_desk (k := .newSession) rfl hs rfl (by simp)

/-- Settles O48: the parts of ROOM CLEAR, and the directive that the deck's part leaves to be posted. -/
theorem newSessionAndRoomClear : Obligations.NewSessionAndRoomClear := by
  intro s hs fresh caughtLyric unscored emptied unstaged
  refine ⟨?_, fun hd hst hp => ?_, fun hd hst hp => ?_, fun e hi hd he hst hp => ?_⟩
  · rw [exec_newSession hs]
    simp only [List.isEmpty_iff]
    rfl
  · have hclear : s.unqueued.clearDeck = s.unqueued := by simp [clearDeck, unqueued, hd]
    exact exec_roomClear hs hst hclear (directiveNow_store (t := emptied) hp rfl)
  · have hclear : s.unqueued.clearDeck = s.unqueued.setDeck { s.deck with reached := false } := by
      simp [clearDeck, unqueued, hd]
    exact exec_roomClear hs hst hclear (directiveNow_store (t := emptied) hp rfl)
  · have hplaying : s.unqueued.lyric.takeAll s.unqueued.store.playing = caughtLyric :=
      congrArg (fun b => s.lyric.takeAll b) (SongStore.emptied_playing s.store)
    have hclear := clearDeck_held (s := s.unqueued) hi hd he
    rw [hplaying] at hclear
    obtain ⟨-, hid, hsong, hkey⟩ := posted_play hp
    rw [if_neg hi] at hid hsong hkey
    have hdirective : { unstaged with playOrder := .stop } = DirectiveFields.mk .stop s.deck.stopId e.song e.keyShift
        .none 0 0 := by
      simp [unstaged, hid, hsong, hkey, Deck.song, Deck.key, he]
    refine exec_roomClear hs hst hclear ?_
    rw [hdirective]
    rfl

/-! ## The leaving of reset (R198) -/

/-- Settles O53: a controller that may leave reset takes the reset values of its chapters. -/
theorem leavingResetGivesResetValues : Obligations.LeavingResetGivesResetValues := by
  intro pins s hreset hpin hsupply line lyric empty silent unscored
  have hmay : s.resetUnit.mayLeave = true := by simp [ResetUnit.mayLeave, hreset, hpin, hsupply]
  have hexec : exec (.leavingReset pins) s = .next (afterReset pins s) := by
    change Host.Outcome.next (if s.resetUnit.mayLeave then afterReset pins s else s) = _
    rw [if_pos hmay]
  rw [hexec]
  rfl

end Sys2Proof.Machine
end

section
/-! # Where the credits fall (R18, R19, R23) -/

namespace Sys2Proof.Machine

open State

namespace State

variable {s : State}

/-! ## The credits that each shared operation leaves -/

@[simp] theorem reexamine_credits (s : State) : s.reexamine.room.credits = s.room.credits := by
  obtain h | h | ⟨-, -, e, rest, -, h⟩ := reexamine_cases s
  · rw [h]
  · rw [h, noteShortage_room]
  · rw [h, startEntry_room]

@[simp] theorem reexamineEvent_credits (s : State) : s.reexamineEvent.room.credits = s.room.credits := by
  obtain h | h | h := reexamineEvent_cases s
  · rw [h, post_room, reexamine_credits]
  · rw [h]
  · rw [h, noteShortage_room]

@[simp] theorem queueEvent_credits (s : State) (q : RoomQueue) : (s.queueEvent q).room.credits = q.credits := by
  unfold queueEvent headEvent
  split <;> simp

@[simp] theorem accountEvent_credits (s : State) (q : RoomQueue) : (s.accountEvent q).room.credits = q.credits := by
  obtain h | h := accountEvent_cases s q <;> simp [h]

/-- No request that alters the queue touches the account. -/
theorem Alters.credits {q : RoomQueue} (h : s.Alters q) : q.credits = s.room.credits := by
  cases h <;> rfl

theorem Queued.credits {t : State} (h : s.Queued t) : t.room.credits = s.room.credits := by
  obtain rfl | ⟨q, hq, rfl⟩ := h
  · rfl
  · rw [queueEvent_credits, hq.credits]

theorem stageCloseEvent_credits (s : State) (i : Nat) : (s.stageCloseEvent i).1.room.credits = s.room.credits := by
  obtain h | ⟨-, -, h⟩ | ⟨-, h⟩ := stageCloseEvent_cases s i <;> simp [h]

theorem stageFailEvent_credits (s : State) (i : Nat) : (s.stageFailEvent i).1.room.credits = s.room.credits := by
  obtain h | ⟨e, -, h⟩ := stageFailEvent_cases s i <;> simp [h, RoomQueue.remove]

@[simp] theorem idleEvent_credits (s : State) : s.idleEvent.room.credits = s.room.credits := by
  simp [idleEvent]

@[simp] theorem tickDeck_room (s : State) : (tickDeck s).room = s.room := by
  obtain ⟨-, h⟩ | ⟨-, -, h⟩ | ⟨-, h⟩ := tickDeck_cases s <;> simp [h, stallExpiry]

@[simp] theorem configure_credits (s : State) (item : ConfigItem) (v : Nat) :
    (configure s item v).room.credits = s.room.credits := by
  cases item
  case baud =>
    unfold configure setBaud setSettings
    dsimp only
    split <;> rfl
  all_goals rfl

/-! ## Marks (R19) -/

/-- The first mark of a song in a room that is not unlimited takes one credit; no other mark takes any (R19). -/
theorem takeMark_credits (s : State) (i m : Nat) (k : Byte) :
    s.room.credits ≤ (s.takeMark i m k).1.room.credits ∨ (s.deck.state = .starting ∧
      (s.takeMark i m k).1.deck.state = .playing ∧ s.room.unlimited = false ∧
      (s.takeMark i m k).1.room.credits + 1 = s.room.credits) := by
  obtain h | ⟨-, h | h⟩ := takeMark_cases s i m k
  · exact .inl (by rw [h])
  · rw [h]
    obtain h | ⟨hd, h⟩ | ⟨-, h⟩ | ⟨-, h⟩ := takeRun_cases s m
    · exact .inl (by rw [h])
    · rw [h, takeCredit_eq]
      simp only [handAdvance_room, setRoom_room, handAdvance_deck, setRoom_deck, setDeck_deck]
      split
      · next hc => exact .inr ⟨hd, rfl, hc.1, by omega⟩
      · exact .inl le_rfl
    · exact .inl (by simp [h])
    · exact .inl (by simp [h])
  · rw [h]
    obtain h | ⟨-, h⟩ | ⟨-, -, marked, o, t, h, hm⟩ := takeEnd_cases s m
    · exact .inl (by rw [h])
    · exact .inl (by simp [h])
    · have hroom : marked.room = s.room := by obtain rfl | rfl | rfl := hm <;> simp
      exact .inl (by simp [h, hroom])

end State

/-- A time mark at the port: not taken, or refused, with room and deck as they were, or taken by the deck (R174, R176). -/
theorem takeCommand_timeMark (p : List Byte) (check : Byte) (s : State) :
    ((takeCommand MediaKind.timeMark.code p check s).room = s.room) ∨
    ((takeCommand MediaKind.timeMark.code p check s).room = (timeMarkCommand p s).1.room ∧
      (takeCommand MediaKind.timeMark.code p check s).deck = (timeMarkCommand p s).1.deck) := by
  unfold takeCommand
  split
  · exact .inl rfl
  split
  · exact .inl rfl
  · next k hk =>
    have hkind : k = .timeMark := by
      have := portCheck_kind hk
      revert this
      cases k <;> decide
    rw [hkind]
    exact .inr ⟨rfl, rfl⟩

/-- A time mark lowers the credits by the one that the first mark of a song takes, if at all (R19). -/
theorem timeMark_credits {c : Instr} {p : List Byte} {check : Byte} {s t : State}
    (hc : c = .timeMarkRun p check ∨ c = .timeMarkEnd p check) (hexec : exec c s = .next t) :
    s.room.credits ≤ t.room.credits ∨ (s.deck.state = .starting ∧ t.deck.state = .playing ∧
      s.room.unlimited = false ∧ t.room.credits + 1 = s.room.credits) := by
  have ht : t = s.live (takeCommand MediaKind.timeMark.code p check) := by
    obtain rfl | rfl := hc <;> cases hexec <;> rfl
  rw [ht]
  unfold State.live
  split
  · obtain hroom | ⟨hroom, hdeck⟩ := takeCommand_timeMark p check s
    · exact .inl (by rw [hroom])
    · rw [hroom, hdeck]
      exact takeMark_credits s _ _ _
  · exact .inl le_rfl

/-! ## Every other event (R18) -/

/-- Credits of at least `k`, which the account can hold, stay at least `k` through every event but the few that may lower
them. -/
theorem credits_keptByMost {k : Nat} (hk : k ≤ 999) : KeptByMost (fun s => k ≤ s.room.credits) where
  raise _ _ h := by simpa using h
  panel _ _ _ h := by simpa using h
  port _ _ _ h := h
  desk _ _ _ _ _ h := h
  frontTick _ h := h
  settled _ _ h := h
  conversion _ _ _ _ h := h
  edge _ _ _ _ h := h
  resetUnit _ _ h := h
  leaveStandby _ _ h := by simpa [leaveStandby] using h
  standby _ h := by simpa using h
  submit _ _ _ _ h := h.trans_eq (submit_queued _ _ _ _).credits.symm
  cancel _ _ _ h := h.trans_eq (cancel_queued _ _ _).credits.symm
  panelMove _ _ _ _ h := h.trans_eq (panelMove_queued _ _ _ _).credits.symm
  deskMove _ _ _ h := h.trans_eq (deskMove_queued _ _ _).credits.symm
  promote _ _ h := h.trans_eq (promoteId_queued _ _).credits.symm
  remove _ _ h := h.trans_eq (removeId_queued _ _).credits.symm
  addCredits s v h := by
    have hmin : k ≤ min (s.room.credits + v) 999 := by omega
    simpa [RoomQueue.addCredits] using hmin
  setUnlimited _ _ h := by simpa [RoomQueue.setUnlimited] using h
  lock _ h := h
  unlock _ h := by simpa [unlockRoom] using h
  configure _ _ _ h := by simpa using h
  newSession _ h := h
  stageOpen _ _ h := by simpa using h
  stageLine _ _ h := by simpa using h
  stageNote _ _ h := by simpa using h
  stageClose _ _ h := h.trans_eq (stageCloseEvent_credits _ _).symm
  stageFail _ _ h := h.trans_eq (stageFailEvent_credits _ _).symm
  hold _ h := by simpa using h
  go _ h := by simpa using h
  key _ _ h := by simpa using h
  skip _ _ h := by simpa using h
  stopSong _ h := by simpa using h
  tick _ h := by simpa using h
  stall _ _ h := by simpa [stallExpiry] using h
  startExpiry _ _ h := by simpa using h
  limitExpiry _ _ h := by simpa using h
  stopExpiry _ _ h := by simpa using h
  lyricTake _ _ _ _ h := h
  graderTake _ _ _ _ h := h
  scene _ h := by simpa [sceneLyric] using h
  lyricNewSong _ h := by simpa using h
  lyricDropSong _ h := by simpa using h
  graderNewSong _ h := by simpa using h
  finalScores _ _ h := by simpa using h
  songEnded _ h := by simpa using h
  discard _ h := by simpa using h
  sample _ _ _ h := by simpa using h

/-- Settles O59: a time mark takes the one credit of R19, and outside the commands named credits never fall. -/
theorem creditsFallOnlyWhere : Obligations.CreditsFallOnlyWhere := by
  intro c s t hwf hexec hrange hfall
  by_contra hnot
  simp only [not_or, not_exists] at hnot
  obtain ⟨haccount, hreset, hmark⟩ := hnot
  have hmarks : ∀ p check, ¬(c = .timeMarkRun p check ∨ c = .timeMarkEnd p check) := fun p check hc =>
    (timeMark_credits hc hexec).elim (by omega) fun h => hmark p check ⟨hc, h⟩
  have hkept : s.room.credits ≤ t.room.credits := by
    refine (credits_keptByMost hrange).exec (fun p check hc => ?_) (fun _ _ _ h => h) (fun p hc => ?_) (fun p hc => ?_)
      (fun pins hc => absurd hc (hreset pins)) le_rfl hexec
    · obtain hc | hc | rfl := hc
      · exact absurd (.inl hc) (hmarks p check)
      · exact absurd (.inr hc) (hmarks p check)
      · simp [Instr.wellFormed, isMediaKind, MediaKind.code] at hwf
    · obtain hc | rfl := hc
      · exact absurd hc (haccount p).1
      · simp [Instr.wellFormed, isDeskKind, DeskKind.code] at hwf
    · obtain hc | rfl := hc
      · exact absurd hc (haccount p).2
      · simp [Instr.wellFormed, isDeskKind, DeskKind.code] at hwf
  omega

end Sys2Proof.Machine
end

section
/-! # Breaks, gaps, characters and frames at a panel line (R25 to R36, R45, R201) -/

namespace Sys2Proof.Machine

open State

variable {s : State} {l : PanelLine}

/-! ## The receiver and the gap count (R26, R27, R29) -/

theorem canReceive_iff (u : PanelUnit) : u.canReceive = true ↔ u.receiver = .watching ∨ u.lineHigh = true := by
  simp [PanelUnit.canReceive]

theorem inProgress_iff (a : Assembler) : a.inProgress = true ↔ a ≠ .outside ∧ a ≠ .awaitLead := by
  cases a <;> simp [Assembler.inProgress]

theorem inProgress_eq (a : Assembler) : a.inProgress = decide (a ≠ .outside ∧ a ≠ .awaitLead) := by
  rw [Bool.eq_iff_iff, inProgress_iff, decide_eq_true_iff]

/-- A break that the receiver takes raises LINE_FAULT where it cuts a frame (R26, R30). -/
theorem exec_panelBreak_taken (hrun : s.running = true) (hc : (s.panel l).canReceive = true) :
    exec (.panelBreak l) s = .next (if (s.panel l).assembler.inProgress
      then (s.setPanel l (s.panel l).takeBreak).raise .lineFault else s.setPanel l (s.panel l).takeBreak) := by
  simp only [exec, execPanelBreak, hrun, hc, if_true]

theorem exec_panelBreak_ignored (hrun : s.running = true) (hc : (s.panel l).canReceive = false) :
    exec (.panelBreak l) s = .next s := by
  simp [exec, execPanelBreak, hrun, hc]

theorem exec_gap (hrun : s.running = true) : exec (.gap l) s =
    .next (if (s.panel l).gapCounting && (s.panel l).assembler.inProgress
      then (s.setPanel l (s.panel l).gapError).raise .lineFault else s) := by
  simp only [exec, execGap, live_running hrun]

/-- Settles O11: the receiver decides whether a break is taken, and the assembler whether it cuts a frame. -/
theorem panelBreakAndGap : Obligations.PanelBreakAndGap := by
  intro l s hrun u inProgress taken
  have hprogress : u.assembler.inProgress = true ↔ inProgress := inProgress_iff _
  refine ⟨fun hc => ?_, fun hwait hlow => ?_, fun hcount hin => ?_, fun hnot => ?_⟩
  · rw [exec_panelBreak_taken hrun ((canReceive_iff u).2 hc)]
    unfold PanelUnit.takeBreak
    refine ⟨fun hin => ?_, fun hnot => ?_⟩
    · rw [if_pos (hprogress.2 hin), if_pos (hprogress.2 hin)]
      rfl
    · rw [if_neg (mt hprogress.1 hnot), if_neg (mt hprogress.1 hnot)]
      rfl
  · have hc : u.canReceive = false := by simp [PanelUnit.canReceive, hwait, hlow]
    exact exec_panelBreak_ignored hrun hc
  · rw [exec_gap hrun, if_pos (by simpa using ⟨hcount, hprogress.2 hin⟩)]
    rfl
  · rw [exec_gap hrun, if_neg]
    rw [Bool.and_eq_true]
    rintro ⟨hcount, hin⟩
    exact hnot.elim (fun h => Bool.false_ne_true (h.symm.trans hcount)) (· (hprogress.1 hin))

/-! ## The shift and the line's return (R25, R26, R35) -/

theorem exec_shiftCompletion (hrun : s.running = true) :
    exec (.shiftCompletion l) s = .next (s.setPanel l (s.panel l).completeShift) := by
  simp only [exec, execShiftCompletion, live_running hrun]

theorem completeShift_full {u : PanelUnit} {sent : Sending} {r : PanelReply} (hx : u.shift = some sent)
    (hr : u.slot = .full r) : u.completeShift = { u with slot := .empty, shift := some ⟨r, u.rate⟩ } := by
  simp only [PanelUnit.completeShift, hx, hr]

theorem completeShift_done {u : PanelUnit} {sent : Sending} (hx : u.shift = some sent)
    (hr : u.slot = .empty ∨ u.slot = .reserved) : u.completeShift = { u with shift := none } := by
  rcases hr with hr | hr <;> simp only [PanelUnit.completeShift, hx, hr]

/-- Settles O14: the completion by what stands in the slot, the line's return by whether the controller runs. -/
theorem shiftCompletionAndLineHigh : Obligations.ShiftCompletionAndLineHigh := by
  intro l s u
  refine ⟨fun sent r hrun hx hr => ?_, fun sent hrun hx hr => ?_, fun hrun => ?_, fun hrun => ?_⟩
  · rw [exec_shiftCompletion hrun, completeShift_full hx hr]
  · rw [exec_shiftCompletion hrun, completeShift_done hx hr]
  · simp only [exec, execLineReturnsHigh, hrun, if_true]
    rfl
  · simp only [exec, execLineReturnsHigh, hrun]
    rfl

/-! ## The request stage (R32, R33, R201) -/

/-- The row of a complete frame is the frame taken by the request stage, whatever its kind (R32). -/
theorem exec_ofFrame (hrun : s.running = true) (l : PanelLine) (kind : Byte) (p : List Byte) :
    exec (Instr.ofFrame l kind p) s = .next (takeFrame l kind p s) := by
  have hlive : exec (Instr.ofFrame l kind p) s = .next (s.live (takeFrame l kind p)) := by
    unfold Instr.ofFrame
    (repeat' split) <;> subst_vars <;> rfl
  rw [hlive, live_running hrun]

theorem exec_panelUnknownKind (hrun : s.running = true) (kind : Byte) (p : List Byte) :
    exec (.panelUnknownKind l kind p) s = .next (takeFrame l kind p s) := by
  simp only [exec, execPanelUnknownKind, live_running hrun]

theorem panelKindOf_eq_none {kind : Byte} (h : kind.toNat < 0x10 ∨ 0x19 < kind.toNat) : panelKindOf kind = none := by
  refine List.find?_eq_none.2 fun k _ hk => ?_
  rw [beq_iff_eq] at hk
  subst hk
  revert h
  cases k <;> decide

/-- The ten kinds of request, by their code, and the payload length of each (R32, section 2.5). -/
theorem panelKindOf_eq_some {kind : Byte} (hlow : 0x10 ≤ kind.toNat) (hhigh : kind.toNat ≤ 0x19) :
    ∃ k, panelKindOf kind = some k ∧ [6, 1, 2, 1, 0, 0, 1, 1, 0, 1][kind.toNat - 0x10]? = some k.length := by
  obtain ⟨n, hn, rfl⟩ : ∃ n, n = kind.toNat ∧ kind = BitVec.ofNat 8 n := ⟨_, rfl, by simp⟩
  rw [← hn]
  rw [← hn] at hlow hhigh
  clear hn
  interval_cases n <;> exact ⟨_, rfl, rfl⟩

/-- The controller as it leaves standby, before the start conditions are re-examined (R201). -/
def State.woken (s : State) : State :=
  ((s.setDesk { s.desk with standby := false }).raise .woke).setFront
    { s.front with activity := .settling, settleTimer := some 20 }

theorem leaveStandby_eq (s : State) : s.leaveStandby = s.woken.reexamineEvent := rfl

/-- Leaving standby is a re-examination of the woken controller, where the directive is as posted (R70, R201). -/
theorem woken_reexamined (hp : s.Posted) : s.woken.Reexamined s.leaveStandby :=
  reexamineEvent_spec fun h => playOrder_of_idle hp h

/-- Settles O13, one check of the order after the other. -/
theorem frameChecksInOrder : Obligations.FrameChecksInOrder := by
  intro l kind p s hrun u no woken
  have hwakes : u.slot = .empty → s.desk.standby = true → s.desk.settings.wakeOnPanel = true →
      exec (Instr.ofFrame l kind p) s = exec (Instr.ofFrame l kind p) s.leaveStandby := by
    intro hslot hstandby hwake
    have hrun' : s.leaveStandby.running = true := by simpa [State.running] using hrun
    rw [exec_ofFrame hrun, exec_ofFrame hrun', takeFrame_wakes hslot hstandby hwake]
  refine ⟨fun hslot => ?_, fun hslot hstandby hwake => ?_, fun hslot hstandby hwake hready => ?_,
    fun hslot hstandby hwake hp => ⟨_, woken_reexamined hp, hwakes hslot hstandby hwake⟩,
    fun hslot hstandby hkind => ?_, fun hslot hstandby hlow hhigh hlength => ?_⟩
  · rw [exec_ofFrame hrun, takeFrame_full hslot]
    rfl
  · rw [exec_ofFrame hrun, takeFrame_standby hslot hstandby hwake]
    rfl
  · rw [hwakes hslot hstandby hwake, leaveStandby_eq, reexamineEvent_not_ready (s := s.woken) hready]
    rfl
  · rw [exec_panelUnknownKind hrun, takeFrame_badKind ⟨hrun, hslot, hstandby⟩ (panelKindOf_eq_none hkind)]
    rfl
  · obtain ⟨k, hk, hfits⟩ := panelKindOf_eq_some hlow hhigh
    rw [exec_ofFrame hrun, takeFrame_badLength ⟨hrun, hslot, hstandby⟩ hk (fun h => hlength (by rw [hfits, h]))]
    rfl

/-! ## What the receiver makes of a character (R25, R26) -/

/-- Each bit is the majority of its three samples (R25). -/
theorem getLsbD_majority (x y z : BitVec 11) (k : Nat) : (majority x y z).getLsbD k =
    ((x.getLsbD k && y.getLsbD k) || (x.getLsbD k && z.getLsbD k) || (y.getLsbD k && z.getLsbD k)) := by
  simp [majority]

/-- The data byte is the one whose bits are those after the start bit, least significant first (section 2.1). -/
theorem extractLsb'_eq {bits : BitVec 11} {v : Byte} (hv : ∀ k < 8, v.getLsbD k = bits.getLsbD (k + 1)) :
    bits.extractLsb' 1 8 = v := by
  refine BitVec.eq_of_getLsbD_eq fun k hk => ?_
  rw [hv k hk, BitVec.getLsbD_extractLsb', Nat.add_comm]
  simp [hk]

/-- The parity of a list of bits, folded bit by bit, is that of the number of ones. -/
theorem foldl_xor_eq (f : Nat → Bool) (is : List Nat) (b : Bool) :
    is.foldl (fun p i => xor p (f i)) b = decide ((is.countP f + b.toNat) % 2 = 1) := by
  induction is generalizing b with
  | nil => cases b <;> rfl
  | cons i is ih =>
    rw [List.foldl_cons, ih, List.countP_cons]
    cases f i <;> cases b <;> simp
    omega

/-- The parity is even exactly where the eight data bits and the parity bit hold an even number of ones (section 2.1). -/
theorem evenParity_iff (bits : BitVec 11) : evenParity (bits.extractLsb' 1 8) (bits.getLsbD 9) = true ↔
    ((List.range 9).countP fun k => bits.getLsbD (k + 1)) % 2 = 0 := by
  have hdata : (List.range 8).countP (fun i => (bits.extractLsb' 1 8).getLsbD i) =
      (List.range 8).countP fun k => bits.getLsbD (k + 1) :=
    List.countP_congr fun i hi => by
      simp [List.mem_range.1 hi, Nat.add_comm]
  have hsum : ((List.range 9).countP fun k => bits.getLsbD (k + 1)) =
      ((List.range 8).countP fun k => bits.getLsbD (k + 1)) + (bits.getLsbD 9).toNat := by
    rw [List.range_succ (n := 8), List.countP_append, List.countP_singleton]
    cases bits.getLsbD 9 <;> rfl
  unfold evenParity
  rw [foldl_xor_eq, hdata, hsum, beq_iff_eq, decide_eq_false_iff_not]
  omega

theorem receivedOf_falseStart {bits : BitVec 11} (h0 : bits.getLsbD 0 = true) : receivedOf bits = .falseStart := by
  simp [receivedOf, h0]

theorem receivedOf_framing {bits : BitVec 11} (h0 : bits.getLsbD 0 = false) (h10 : bits.getLsbD 10 = false) :
    receivedOf bits = .framing := by
  simp only [receivedOf, h0, h10]
  rfl

theorem receivedOf_parity {bits : BitVec 11} (h0 : bits.getLsbD 0 = false) (h10 : bits.getLsbD 10 = true)
    (hodd : ¬((List.range 9).countP fun k => bits.getLsbD (k + 1)) % 2 = 0) : receivedOf bits = .parity := by
  simp only [receivedOf, h0, h10, mt (evenParity_iff bits).1 hodd]
  rfl

theorem receivedOf_good {bits : BitVec 11} (h0 : bits.getLsbD 0 = false) (h10 : bits.getLsbD 10 = true)
    (heven : ((List.range 9).countP fun k => bits.getLsbD (k + 1)) % 2 = 0) :
    receivedOf bits = .good (bits.extractLsb' 1 8) := by
  simp only [receivedOf, h0, h10, (evenParity_iff bits).2 heven]
  rfl

/-! ## What a character does (R28, R30) -/

variable {r : Received}

/-- The line's unit once its assembler has come to `a`, with its counters: the gap count runs exactly in a frame in
progress (R29). -/
def State.assembled (s : State) (l : PanelLine) (a : Assembler) (counters : LineCounters) : State :=
  s.setPanel l { s.panel l with
    lineHigh := true, receiver := .watching, assembler := a
    gapCounting := decide (a ≠ .outside ∧ a ≠ .awaitLead), counters := counters }

theorem setPanel_afterAssembly_moved (s : State) (l : PanelLine) (a : Assembler) :
    s.setPanel l ((s.panel l).afterAssembly (.moved a)) = s.assembled l a (s.panel l).counters := by
  rw [State.assembled, ← inProgress_eq]
  rfl

theorem setPanel_afterAssembly_failed (s : State) (l : PanelLine) (e : FrameError) :
    s.setPanel l ((s.panel l).afterAssembly (.failed e)) =
      s.assembled l .outside ((s.panel l).counters.count e) := by
  rw [State.assembled, ← inProgress_eq]
  rfl

theorem takeCharacter_moved {a : Assembler} (h : (s.panel l).assembler.take r = .moved a) :
    takeCharacter l r s = s.assembled l a (s.panel l).counters := by
  rw [← setPanel_afterAssembly_moved]
  simp only [takeCharacter, h, Assembled.moved]

theorem takeCharacter_failed {e : FrameError} (h : (s.panel l).assembler.take r = .failed e) :
    takeCharacter l r s = (s.assembled l .outside ((s.panel l).counters.count e)).raise .lineFault := by
  rw [← setPanel_afterAssembly_failed]
  simp only [takeCharacter, h, Assembled.failed]

/-- The character that completes a frame leaves the assembler outside, and the frame to the request stage (R28). -/
theorem takeCharacter_completed {kind : Byte} {p : List Byte}
    (h : (s.panel l).assembler.take r = .completed kind p) :
    takeCharacter l r s = takeFrame l kind p (s.assembled l .outside (s.panel l).counters) := by
  have hunit : (s.panel l).afterAssembly (.completed kind p) = (s.panel l).afterAssembly (.moved .outside) := rfl
  rw [← setPanel_afterAssembly_moved, ← hunit]
  simp only [takeCharacter, h, Assembled.completed]

/-- A character in error is ignored outside a frame, and ends any frame (R28, R30). -/
theorem takeCharacter_bad (e : FrameError) (h : ∀ a : Assembler, a.take r = a.takeBad e) : takeCharacter l r s =
    if (s.panel l).assembler = .outside then s.assembled l .outside (s.panel l).counters
    else (s.assembled l .outside ((s.panel l).counters.count e)).raise .lineFault := by
  split
  · next ha => exact takeCharacter_moved ((h _).trans (if_pos ha))
  · next ha => exact takeCharacter_failed ((h _).trans (if_neg ha))

theorem exec_panelCharacter_falseStart {x y z : BitVec 11} (hrun : s.running = true)
    (h : receivedOf (majority x y z) = .falseStart) : exec (.panelCharacter l x y z) s = .next s := by
  simp only [exec, execPanelCharacter, live_running hrun, h]

theorem exec_panelCharacter {x y z : BitVec 11} (hrun : s.running = true) (hc : (s.panel l).canReceive = true)
    (h : receivedOf (majority x y z) = r) (hr : r ≠ .falseStart) :
    exec (.panelCharacter l x y z) s = .next (takeCharacter l r s) := by
  simp only [exec, execPanelCharacter, live_running hrun, h, hc, if_true]

/-- Settles O12: the samples say what was received, and the assembler's state what becomes of it. -/
theorem panelCharacterTable : Obligations.PanelCharacterTable := by
  intro l s x y z v hrun hc bit hv u c after failed even
  have hbit : ∀ k, (majority x y z).getLsbD k = bit k := getLsbD_majority x y z
  have hvalue : (majority x y z).extractLsb' 1 8 = v := extractLsb'_eq fun k hk => (hv k hk).trans (hbit _).symm
  have heven : ((List.range 9).countP fun k => (majority x y z).getLsbD (k + 1)) % 2 = 0 ↔ even := by
    simp only [hbit, even]
  have hchar : ∀ r, receivedOf (majority x y z) = r → r ≠ .falseStart →
      exec (.panelCharacter l x y z) s = .next (takeCharacter l r s) := fun _ =>
    exec_panelCharacter hrun ((canReceive_iff _).2 hc)
  refine ⟨fun h0 => ?_, fun h0 h10 => ?_, fun h0 h10 hodd => ?_, fun h0 h10 hev => ?_⟩
  · exact exec_panelCharacter_falseStart hrun (receivedOf_falseStart ((hbit 0).trans h0))
  · rw [hchar _ (receivedOf_framing ((hbit 0).trans h0) ((hbit 10).trans h10)) (by simp)]
    exact congrArg _ (takeCharacter_bad .framing fun _ => rfl)
  · rw [hchar _ (receivedOf_parity ((hbit 0).trans h0) ((hbit 10).trans h10) (mt heven.1 hodd)) (by simp)]
    exact congrArg _ (takeCharacter_bad .parity fun _ => rfl)
  · rw [hchar _ (receivedOf_good ((hbit 0).trans h0) ((hbit 10).trans h10) (heven.2 hev)) (by simp), hvalue]
    have htake : ∀ a, u.assembler = a → u.assembler.take (.good v) = a.takeGood v := by rintro _ rfl; rfl
    split
    · next ha => exact congrArg _ (takeCharacter_moved (htake _ ha))
    · next ha =>
      refine congrArg _ ?_
      split
      · next hlead => exact takeCharacter_moved ((htake _ ha).trans (if_pos hlead))
      · next hlead => exact takeCharacter_failed ((htake _ ha).trans (if_neg hlead))
    · next ha => exact congrArg _ (takeCharacter_moved (htake _ ha))
    · next kind sum ha =>
      refine congrArg _ ?_
      split
      · next hlong => exact takeCharacter_failed ((htake _ ha).trans (if_pos hlong))
      split
      · next hlong hnone => exact takeCharacter_moved ((htake _ ha).trans ((if_neg hlong).trans (if_pos hnone)))
      · next hlong hsome => exact takeCharacter_moved ((htake _ ha).trans ((if_neg hlong).trans (if_neg hsome)))
    · next kind length stored sum ha =>
      refine congrArg _ ?_
      split
      · next hmore => exact takeCharacter_moved ((htake _ ha).trans (if_neg (by omega)))
      · next hlast => exact takeCharacter_moved ((htake _ ha).trans (if_pos (by omega)))
    · next kind stored sum ha =>
      split
      · next hsum =>
        have hrun' : (after .outside c).running = true := by simpa [State.running, after] using hrun
        rw [takeCharacter_completed ((htake _ ha).trans (if_pos hsum)), exec_ofFrame hrun']
        rfl
      · next hsum => exact congrArg _ (takeCharacter_failed ((htake _ ha).trans (if_neg hsum)))

end Sys2Proof.Machine
end

section
/-! # Reports: the NOW REPORT, history pages and the desk's reads (R43, R44, R170, R171, R193, R196, R197, R203) -/

namespace Sys2Proof.Machine

open State

variable {s : State}

/-! ## The NOW REPORT (R43) -/

theorem exec_peekNow {l : PanelLine} (hs : s.Takes l) :
    exec (.peekNow l []) s = .next (s.replied l ⟨0x83#8, nowReportBytes s⟩) :=
  exec_panel (k := .peekNow) rfl hs rfl

theorem nowEntryBytes_idle (h : s.deck.state = .idle) : nowEntryBytes s = List.replicate 15 0#8 := by
  simp only [nowEntryBytes, h]

theorem nowEntryBytes_held {e : Entry} (h : s.deck.state ≠ .idle) (he : s.deck.current = some e) :
    nowEntryBytes s = byteOf s.deck.stopId :: field3 e.song ++
      [byteOf e.singer, e.origin.code, yesNo e.priority, e.micMode.code, signedByte e.keyShift] ++
      field3 s.deck.playTime ++ field3 s.store.playing.songLength := by
  unfold nowEntryBytes
  split
  · next hidle => exact absurd hidle h
  · next hnone _ => simp [hnone] at he
  · next hsome _ => rw [Option.some.inj (hsome.symm.trans he)]

theorem nowScoreBytes_idle (h : s.deck.state = .idle) (g : MicGrade) : nowScoreBytes s g = [255#8, 255#8] := by
  simp only [nowScoreBytes, h, if_true]
  rfl

/-- A running score is absent for a microphone that is not scored, and before any note has weight (R150, R157). -/
theorem nowScoreBytes_held (h : s.deck.state ≠ .idle) (g : MicGrade) : nowScoreBytes s g =
    if g.parts = none ∨ g.weight = 0 then [255#8, 255#8] else field2 (10 * g.total / g.weight) := by
  unfold nowScoreBytes MicGrade.score
  rw [if_neg h]
  by_cases habsent : g.parts = none ∨ g.weight = 0
  · rw [if_pos habsent, if_neg (by rcases habsent with h | h <;> simp [h])]
    rfl
  · rw [if_neg habsent]
    rw [not_or, ← ne_eq, ← Option.isSome_iff_ne_none] at habsent
    obtain ⟨hparts, hweight⟩ := habsent
    rw [if_pos (by simp [hparts, Nat.pos_of_ne_zero hweight])]
    rfl

theorem songLength_of_header {b : Bank} {h : BankHeader} (hh : b.header = some h) : b.songLength = h.length := by
  simp only [Bank.songLength, hh]

/-- Settles O15: in IDLE every field of the current entry is 0 and both scores are absent. -/
theorem peekNowReport : Obligations.PeekNowReport := by
  intro l s hs score room
  rw [exec_peekNow hs]
  refine ⟨fun hidle => ?_, fun e h hd he hh => ?_⟩
  · unfold nowReportBytes
    rw [nowEntryBytes_idle hidle, nowScoreBytes_idle hidle, nowScoreBytes_idle hidle, hidle]
    rfl
  · have hscore : ∀ g, nowScoreBytes s g = score g := nowScoreBytes_held hd
    unfold nowReportBytes
    rw [nowEntryBytes_held hd he, songLength_of_header hh, hscore, hscore]
    simp [room, field2, field3, yesNo, signedByte]

/-! ## Pages of the history (R44, R170) -/

/-- A history page: the records from index `first` on, numbered from there; index 0 is taken as 1. -/
theorem historyPageBytes_eq (v : Results) (j size : Nat) (bytes : Nat → HistoryRecord → List Byte) :
    let first := if j = 0 then 1 else j
    let shown := (v.history.drop (first - 1)).take size
    v.pageBytes j size bytes = byteOf v.history.length :: byteOf shown.length ::
      (shown.zipIdx first).flatMap fun x => bytes x.2 x.1 := by
  intro first shown
  have hfirst : max j 1 = first := by simp only [first]; split <;> omega
  have hsucc : first - 1 + 1 = first := by omega
  unfold Results.pageBytes Results.page
  rw [hfirst, drop_take_zipIdx, hsucc]
  simp [List.flatMap_map, shown]

/-- Settles O16: both lines carry pages of the same history, each with its own size and record. -/
theorem historyPages : Obligations.HistoryPages := by
  intro p s hl first two three opt counts summary record page
  have hpage : ∀ size (mine : Nat → HistoryRecord → List Byte) (bytes : HistoryRecord → Nat → List Byte),
      (∀ i r, mine i r = bytes r i) → s.results.pageBytes (byteAt p 0).toNat size mine = page size bytes := by
    intro size mine bytes hbytes
    rw [historyPageBytes_eq]
    simp only [hbytes]
    rfl
  have hsummary : ∀ i r, Results.summaryBytes i r = summary r i := fun _ _ => rfl
  have hrecord : ∀ i r, Results.recordBytes i r = record r i := fun i r => by
    simp [Results.recordBytes, Results.countsBytes, record, counts, opt, two, three, field2, field3, optional2, yesNo,
      signedByte]
  refine ⟨fun l hs => ?_, fun hs => ?_⟩
  · rw [← hpage 2 _ _ hsummary]
    exact exec_panel (k := .peekPast) rfl hs hl
  · rw [← hpage 4 _ _ hrecord]
    exact exec_desk (k := .readHistory) rfl hs hl (by simp)

/-! ## The desk's reads (R31, R171, R193, R196, R197, R203) -/

/-- The word of a set, flag by flag (R205). -/
theorem toWord_eq (w : EventFlags) : w.toWord =
    (if w.resetSeen then 1 else 0) + (if w.songDone then 2 else 0) + (if w.boardChanged then 4 else 0) +
    (if w.creditsOut then 8 else 0) + (if w.stall then 16 else 0) + (if w.mediaLost then 32 else 0) +
    (if w.lineFault then 64 else 0) + (if w.deskTimeout then 128 else 0) + (if w.woke then 256 else 0) +
    (if w.queueChanged then 512 else 0) := by
  simp only [EventFlags.toWord, EventFlag.all, List.map_cons, List.map_nil, List.sum_cons, List.sum_nil, Nat.add_assoc]
  rfl

theorem yesNo_toNat (b : Bool) : (yesNo b).toNat = if b then 1 else 0 := by cases b <;> rfl

theorem isYes_iff (b : Byte) : isYes b = true ↔ b ≠ 0#8 := by simp [isYes]

/-- The eleven values of CONFIG READ, in item order (R196). -/
theorem configReadCommand_eq (s : State) : configReadCommand s = (s, ⟨.ok,
    field2 s.desk.settings.lyric.rows ++ field2 s.desk.settings.lyric.lead ++ field2 s.desk.settings.lyric.hold ++
    field2 s.desk.settings.lyric.scroll ++ field2 s.desk.settings.lyric.gap ++ field2 s.desk.settings.openThreshold ++
    field2 s.desk.settings.closeThreshold ++ field2 s.desk.settings.baud.baud ++
    field2 (if s.desk.settings.skipAllowed then 1 else 0) ++ field2 (if s.desk.settings.wakeOnPanel then 1 else 0) ++
    field2 s.room.quota⟩) := by
  simp only [configReadCommand, ConfigItem.all, configValue, yesNo_toNat, List.flatMap_cons, List.flatMap_nil,
    List.append_nil, List.append_assoc]

/-- READ LINE COUNTERS reports the counters as they stood, and clears them where its option asks (R31, R203). -/
theorem readLineCountersCommand_eq (p : List Byte) (s : State) : readLineCountersCommand p s =
    (if byteAt p 0 = 0#8 then s
      else (s.setPanelA { s.panelA with counters := LineCounters.zero }).setPanelB
        { s.panelB with counters := LineCounters.zero },
      ⟨.ok, s.panelA.counters.bytes ++ s.panelB.counters.bytes⟩) := by
  unfold readLineCountersCommand
  by_cases h : byteAt p 0 = 0#8
  · rw [if_pos h, if_neg (by simp [isYes_iff, h])]
  · rw [if_neg h, if_pos ((isYes_iff _).2 h)]

/-- Settles O45: each read is its owner's answer over the state as it is. -/
theorem deskReads : Obligations.DeskReads := by
  intro p s hs yes two word c counters zeroed
  have hword : ∀ w, field2 w.toWord = word w := fun w => by rw [toWord_eq]; rfl
  refine ⟨?_, ?_, ?_, ?_, fun hl => ?_⟩
  · exact exec_desk (k := .status) rfl hs rfl (by simp)
  · rw [← hword, ← hword]
    exact exec_desk (k := .readEvents) rfl hs rfl (by simp)
  · have hread := exec_desk (c := .configRead []) (k := .configRead) rfl hs rfl (by simp)
    rw [show deskOwner .configRead [] s = configReadCommand s from rfl, configReadCommand_eq] at hread
    exact hread
  · exact exec_desk (k := .readBoard) rfl hs rfl (by simp)
  · have hread := exec_desk (c := .readLineCounters p) (k := .readLineCounters) rfl hs hl (by simp)
    rw [show deskOwner .readLineCounters p s = readLineCountersCommand p s from rfl,
      readLineCountersCommand_eq] at hread
    exact hread

end Sys2Proof.Machine
end

section
/-! # KEY and CONFIG SET (R41, R45, R69, R85, R194, R195) -/

namespace Sys2Proof.Machine

open State

variable {s : State}

/-! ## KEY (R41, R85) -/

theorem exec_key {l : PanelLine} {p : List Byte} (hs : s.Takes l) (hl : p.length = 1) :
    exec (.key l p) s = .next ((s.keyEvent (byteAt p 0).toInt).1.replied l
      (requestReply 0x16#8 (s.keyEvent (byteAt p 0).toInt).2)) :=
  exec_panel (k := .key) rfl hs hl

theorem keyEvent_refused (delta : Int)
    (h : s.deck.state = .idle ∨ s.deck.state = .starting ∨ s.deck.state = .stopping) :
    s.keyEvent delta = (s, .bare .notPlaying) := by
  refine if_neg ?_
  rcases h with h | h | h <;> simp [h]

theorem clampDelta_eq (delta : Int) :
    max (-12) (min 12 delta) = if delta < -12 then -12 else if 12 < delta then 12 else delta := by
  (repeat' split) <;> omega

theorem clampKey_eq (v : Int) : clampKey v = if v < -6 then -6 else if 6 < v then 6 else v := by
  unfold clampKey
  (repeat' split) <;> omega

/-- The directive of a deck out of IDLE whose entry's key shift alone is not as posted (R69). -/
theorem directiveNow_key (hp : s.Posted) (hd : s.deck.state ≠ .idle) {e : Entry} (he : s.deck.current = some e)
    (key : Int) : (s.setDeck { s.deck with current := some { e with keyShift := key } }).directiveNow =
      { s.port.directive with keyShift := key } := by
  obtain ⟨horder, hid, hsong, -⟩ := posted_play hp
  rw [directiveNow_deck hp (setDeck_store _ _) (by rw [setDeck_room])]
  simp [horder, hid, hsong, hd, Deck.song, Deck.key, Deck.playOrder, he]

/-- A KEY taken: the entry's key shift moved, and the directive with it (R69, R85). -/
theorem keyEvent_taken (hp : s.Posted)
    (h : s.deck.state = .playing ∨ s.deck.state = .paused ∨ s.deck.state = .stalled) {e : Entry}
    (he : s.deck.current = some e) {delta key : Int} (hkey : clampKey (e.keyShift + max (-12) (min 12 delta)) = key) :
    s.keyEvent delta = ((s.setDeck { s.deck with current := some { e with keyShift := key } }).posting
      { s.port.directive with keyShift := key }, ⟨.ok, [signedByte key]⟩) := by
  have hchanged : s.deck.changeKey (max (-12) (min 12 delta)) =
      { s.deck with current := some { e with keyShift := key } } := by
    simp only [Deck.changeKey, he, Option.map_some, hkey]
  have hidle : s.deck.state ≠ .idle := by rcases h with h | h | h <;> simp [h]
  unfold keyEvent
  rw [if_pos h, hchanged]
  simp only [post_of_directiveNow (directiveNow_key hp hidle he key)]
  rfl

/-- Settles O26: the delta and the new key shift are clamped, and the directive differs in the key shift alone. -/
theorem keyChange : Obligations.KeyChange := by
  intro l p s hs hl hp
  rw [exec_key hs hl]
  refine ⟨?_, fun hd => ?_⟩
  · intro hd e he delta key
    have hkey : clampKey (e.keyShift + max (-12) (min 12 (byteAt p 0).toInt)) = key := by
      rw [clampDelta_eq, clampKey_eq]
    rw [keyEvent_taken hp hd he hkey]
    rfl
  · rw [keyEvent_refused _ hd]
    rfl

/-! ## CONFIG SET (R45, R194, R195) -/

theorem exec_configSet {p : List Byte} (hs : s.AtWrite) (hl : p.length = 3) :
    exec (.configSet p) s = .next ((configSetCommand p s).1.recorded (configSetCommand p s).2.code 0x49#8
      (configSetCommand p s).2.payload) :=
  exec_desk (k := .configSet) rfl hs hl (by simp)

theorem configItemOf_code (item : ConfigItem) : configItemOf item.code = some item := by
  cases item <;> rfl

theorem configItemOf_eq_none {b : Byte} (h : b.toNat = 0 ∨ 11 < b.toNat) : configItemOf b = none := by
  refine List.find?_eq_none.2 fun item _ hitem => ?_
  rw [beq_iff_eq] at hitem
  subst hitem
  revert h
  cases item <;> decide

theorem clamp_eq (v : Nat) {low high : Nat} (h : low ≤ high) :
    clamp v low high = if v < low then low else if high < v then high else v := by
  unfold clamp
  (repeat' split) <;> omega

theorem min_eq_if (a b : Nat) : min a b = if b < a then b else a := by split <;> omega

theorem setBaud_baud (s : State) (r : Rate) : (setBaud s r).desk.settings.baud = r := by
  unfold setBaud
  dsimp only
  split <;> rfl

/-- A CONFIG SET of an item the configuration holds: the item set, and the reply (R195). -/
theorem exec_configSet_item {p : List Byte} (hs : s.AtWrite) (hl : p.length = 3) {item : ConfigItem} {t : State}
    {taken : Nat} (hitem : (byteAt p 0).toNat = item.code.toNat) (ht : configure s item (fieldAt p 1 2) = t)
    (htaken : configValue t item = taken) :
    exec (.configSet p) s = .next (t.recorded .ok 0x49#8 (byteAt p 0 :: field2 taken ++
      field2 t.desk.settings.openThreshold ++ field2 t.desk.settings.closeThreshold)) := by
  have hbyte : byteAt p 0 = item.code := BitVec.eq_of_toNat_eq hitem
  rw [exec_configSet hs hl, configSetCommand, hbyte, configItemOf_code]
  simp only [ht, configReply, htaken]

/-- Settles O47, one item after the other. -/
theorem configSetClamps : Obligations.ConfigSetClamps := by
  intro p s hs hl item v c within two Takes withSettings rate pending
  have hwithin : ∀ {low high}, low ≤ high → clamp v low high = within low high := fun h => clamp_eq v h
  have htakes : ∀ (i : ConfigItem) (t : State) (taken : Nat), item = i.code.toNat → configure s i v = t →
      configValue t i = taken → Takes t taken := fun _ _ _ => exec_configSet_item hs hl
  have hyes : (yesNo (decide (v ≠ 0))).toNat = if v = 0 then 0 else 1 := by simp [yesNo_toNat]
  refine ⟨fun h => htakes .rows _ _ h ?_ rfl, fun h => htakes .lead _ _ h ?_ rfl, fun h => htakes .hold _ _ h ?_ rfl,
    fun h => htakes .scroll _ _ h ?_ rfl, fun h => htakes .gap _ _ h ?_ rfl,
    fun h => htakes .openThreshold _ _ h ?_ rfl, fun h => htakes .closeThreshold _ _ h ?_ rfl,
    fun h => htakes .baud _ _ h rfl (congrArg Rate.baud (setBaud_baud s rate)),
    fun h => htakes .skipAllowed _ _ h rfl hyes,
    fun h => htakes .wakeOnPanel _ _ h rfl hyes, fun h => htakes .quota _ _ h ?_ rfl, fun h => ?_⟩
  · rw [← hwithin (by omega)]; rfl
  · rw [← hwithin (by omega)]; rfl
  · rw [← hwithin (by omega)]; rfl
  · rw [← hwithin (by omega)]; rfl
  · rw [← hwithin (by omega)]; rfl
  · rw [← hwithin (by omega), ← min_eq_if]; rfl
  · rw [← hwithin (by omega), ← min_eq_if]; rfl
  · rw [← hwithin (by omega)]; rfl
  · rw [exec_configSet hs hl, configSetCommand, configItemOf_eq_none h]
    rfl

end Sys2Proof.Machine
end

section
/-! # Stage records: STAGE OPEN, NOTE and STAGE CLOSE (R49, R51, R53 to R55, R59 to R61, R70, R71) -/

namespace Sys2Proof.Machine

open State

variable {s : State}

/-! ## The owner's song and the posting -/

/-- Where a song is wanted, it is the head's (R50). -/
theorem head_song_eq (hst : s.StagingRule) (hwanted : s.store.state ≠ .empty) :
    s.room.entries.head?.map (·.song) = some s.ownerSong := by
  rw [ownerSong_eq hst.owner]
  cases he : s.room.entries with
  | nil => exact absurd (hst.empty.2 he) hwanted
  | cons e rest => rfl

@[simp] theorem posting_store (s : State) (d : DirectiveFields) : (s.posting d).store = s.store := by
  unfold posting; split <;> rfl

/-! ## STAGE OPEN (R54, R55) -/

theorem exec_stageOpen {p : List Byte} {check : Byte} {t : State} {a : Answer} (hs : s.AtCheck)
    (hsum : SumsToZero 0x01#8 p check) (hl : p.length = 17) (he : s.stageOpenEvent (headerOf p) = (t, a)) :
    exec (.stageOpen p check) s = .next (t.answered a.code a.payload) := by
  have howner : mediaOwner .stageOpen p s = (t, a) := he
  rw [exec_media (k := .stageOpen) rfl hs hsum (by simp [MediaKind.lengthFits, hl]) (by omega), howner]

theorem stageOpenEvent_refused {h : BankHeader} {code : ResultCode}
    (hr : s.store.openRefusal s.ownerSong h = some code) : s.stageOpenEvent h = (s, ⟨code, s.store.snapshot⟩) := by
  simp only [stageOpenEvent, hr, stagingAnswer]

theorem openRefusal_stale {st : SongStore} {h : BankHeader} (song : Nat)
    (hstale : st.state = .empty ∨ st.owner ≠ some h.entryId) : st.openRefusal song h = some .stale :=
  if_pos ((isStale_iff _ _).2 hstale)

/-- The checks of a STAGE OPEN for the head's entry (R54). -/
theorem openRefusal_fresh (hst : s.StagingRule) {h : BankHeader}
    (hfresh : ¬(s.store.state = .empty ∨ s.store.owner ≠ some h.entryId)) : s.store.openRefusal s.ownerSong h =
      if 256 < h.lines ∨ 2048 < h.syllables ∨ 8192 < h.glyphs ∨ 1024 < h.notes then some .tooLarge
      else if h.step < 150 ∨ 2000 < h.step ∨ h.length = 0 ∨ 3599999 < h.length ∨ h.lines = 0 ∨ h.syllables = 0 ∨
        h.glyphs = 0 ∨ s.room.entries.head?.map (·.song) ≠ some h.song ∨
        h.syllables < h.lines ∨ 32 * h.lines < h.syllables ∨ h.glyphs < h.syllables ∨ 16 * h.syllables < h.glyphs then
        some .badField
      else none := by
  have hsong := head_song_eq hst fun hempty => hfresh (.inl hempty)
  unfold SongStore.openRefusal
  rw [if_neg (mt (isStale_iff _ _).1 hfresh)]
  simp only [hsong, BankHeader.impossible, Config.maxPlayTime, decide_eq_true_eq, gt_iff_lt, ne_eq, Option.some.injEq,
    eq_comm (a := h.song)]

/-- The stage fields of the directive name the song that is being loaded (R51). -/
theorem openLoad_directive (hst : s.StagingRule) (hp : s.Posted) {h : BankHeader} (hwanted : s.store.state ≠ .empty)
    (howner : s.store.owner = some h.entryId) (hsong : s.room.entries.head?.map (·.song) = some h.song) :
    (s.setStore (s.store.openLoad h)).directiveNow =
      { s.port.directive with stageOrder := .load, stageId := h.entryId, stageSong := h.song } := by
  have hloading : (s.store.openLoad h).state = .loading := rfl
  have hopened : (s.store.openLoad h).owner = s.store.owner := SongStore.setStaging_owner _ _
  have hownerSong : (s.setStore (s.store.openLoad h)).ownerSong = h.song := by
    rw [head_song_eq hst hwanted, Option.some.injEq] at hsong
    rw [← hsong]
    simp only [ownerSong, setStore_store, setStore_room, hopened]
  rw [directiveNow_store hp (setStore_deck _ _)]
  simp [hloading, hopened, howner, hownerSong]

/-- A STAGE OPEN taken: the header in a cleared bank, and the directive (R51, R55). -/
theorem stageOpenEvent_accepted (hst : s.StagingRule) (hp : s.Posted) {h : BankHeader}
    (hwanted : s.store.state ≠ .empty) (howner : s.store.owner = some h.entryId)
    (hsong : s.room.entries.head?.map (·.song) = some h.song) (hr : s.store.openRefusal s.ownerSong h = none) :
    s.stageOpenEvent h =
      ((s.setStore (s.store.openLoad h)).posting
        { s.port.directive with stageOrder := .load, stageId := h.entryId, stageSong := h.song },
        ⟨.ok, (s.store.openLoad h).snapshot⟩) := by
  simp only [stageOpenEvent, hr, stagingAnswer, post_of_directiveNow (openLoad_directive hst hp hwanted howner hsong),
    posting_store, setStore_store]

/-- Settles O17, one check of the order after the other. -/
theorem stageOpenStoresHeader : Obligations.StageOpenStoresHeader := by
  intro p check s hs hsum hl hst hp h two snapshot no stale tooLarge bad
  have hchecks : ¬stale → s.store.openRefusal s.ownerSong h =
      if tooLarge then some .tooLarge else if bad then some .badField else none := openRefusal_fresh hst
  have hrefused : ∀ {code}, s.store.openRefusal s.ownerSong h = some code →
      exec (.stageOpen p check) s = .next (no code) := fun hr => exec_stageOpen hs hsum hl (stageOpenEvent_refused hr)
  refine ⟨fun hstale => hrefused (openRefusal_stale _ hstale),
    fun hfresh hlarge => hrefused ((hchecks hfresh).trans (if_pos hlarge)),
    fun hfresh hfits hbad => hrefused ((hchecks hfresh).trans ((if_neg hfits).trans (if_pos hbad))), ?_⟩
  intro hfresh hfits hgood opened
  obtain ⟨hwanted, howner⟩ := not_or.1 hfresh
  have hsong : s.room.entries.head?.map (·.song) = some h.song := by
    by_contra hne
    exact hgood (by simp only [bad, hne, ne_eq, not_false_eq_true, true_or, or_true])
  exact exec_stageOpen hs hsum hl (stageOpenEvent_accepted hst hp hwanted (not_not.1 howner) hsong
    ((hchecks hfresh).trans ((if_neg hfits).trans (if_neg hgood))))

/-! ## STAGE CLOSE (R61) -/

theorem exec_stageClose {p : List Byte} {check : Byte} {t : State} {a : Answer} (hs : s.AtCheck)
    (hsum : SumsToZero 0x04#8 p check) (hl : p.length = 1) (he : s.stageCloseEvent (byteAt p 0).toNat = (t, a)) :
    exec (.stageClose p check) s = .next (t.answered a.code a.payload) := by
  have howner : mediaOwner .stageClose p s = (t, a) := he
  rw [exec_media (k := .stageClose) rfl hs hsum (by simp [MediaKind.lengthFits, hl]) (by omega), howner]

theorem closeRefusal_stale {st : SongStore} {i : Nat} (hstale : st.state = .empty ∨ st.owner ≠ some i) :
    st.closeRefusal i = some .stale :=
  if_pos ((isStale_iff _ _).2 hstale)

theorem closeRefusal_fresh {st : SongStore} {i : Nat} (hfresh : ¬(st.state = .empty ∨ st.owner ≠ some i)) :
    st.closeRefusal i = if st.state ≠ .loading then some .notLoading else none :=
  if_neg (mt (isStale_iff _ _).1 hfresh)

theorem stageCloseEvent_refused {i : Nat} {code : ResultCode} (hr : s.store.closeRefusal i = some code) :
    s.stageCloseEvent i = (s, ⟨code, s.store.snapshot⟩) := by
  simp only [stageCloseEvent, hr, stagingAnswer]

theorem stageCloseEvent_mismatch {i : Nat} (hr : s.store.closeRefusal i = none)
    (hcounts : ¬s.store.staging.countsAgree = true) : s.stageCloseEvent i =
      (s.setStore { s.store.emptied with state := .requested }, ⟨.countMismatch, s.store.snapshot⟩) := by
  simp only [stageCloseEvent, hr, if_neg hcounts]
  rfl

/-- A STAGE CLOSE whose counts agree is answered with the snapshot after its re-examination and posting (R53, R61). -/
theorem stageCloseEvent_agree {i : Nat} {t : State} (hr : s.store.closeRefusal i = none)
    (hcounts : s.store.staging.countsAgree = true)
    (ht : (s.setStore { s.store with state := .ready }).reexamine.post = t) :
    s.stageCloseEvent i = (t, ⟨.ok, t.store.snapshot⟩) := by
  simp only [stageCloseEvent, hr, if_pos hcounts, stagingAnswer, ht]

theorem countsAgree_iff {b : Bank} {h : BankHeader} (hh : b.header = some h) :
    b.countsAgree = true ↔ b.counts = ⟨h.lines, h.syllables, h.glyphs, h.notes⟩ := by
  simp only [Bank.countsAgree, hh, beq_iff_eq]

/-- Nothing more is to be staged for a READY bank (R51). -/
theorem post_of_bankReady (hp : s.Posted) {t : State} (hdeck : t.deck = s.deck) (hport : t.port = s.port)
    (hready : t.store.state = .ready) :
    t.post = t.posting { t.port.directive with stageOrder := .none, stageId := 0, stageSong := 0 } := by
  refine post_of_directiveNow ?_
  rw [directiveNow_store hp hdeck, hport]
  simp [hready]

/-- Settles O20: the counts against the header's, and where they agree the start conditions. -/
theorem stageCloseComparesCounts : Obligations.StageCloseComparesCounts := by
  intro p check s hs hsum hl hst hp b stale ready told
  have hrefused : ∀ {code}, s.store.closeRefusal (byteAt p 0).toNat = some code →
      exec (.stageClose p check) s = .next (s.answered code s.store.snapshot) := fun hr =>
    exec_stageClose hs hsum hl (stageCloseEvent_refused hr)
  refine ⟨fun hstale => hrefused (closeRefusal_stale hstale),
    fun hfresh hnot => hrefused ((closeRefusal_fresh hfresh).trans (if_pos hnot)), ?_⟩
  intro hfresh hload h hh agree
  have hr := (closeRefusal_fresh hfresh).trans (if_neg (not_not.2 hload))
  have hagree : b.countsAgree = true ↔ agree := countsAgree_iff hh
  have hclosed : ∀ {t : State}, agree → ready.reexamine.post = t →
      exec (.stageClose p check) s = .next (t.answered .ok t.store.snapshot) := fun hsame ht =>
    exec_stageClose hs hsum hl (stageCloseEvent_agree hr (hagree.2 hsame) ht)
  refine ⟨fun hdiffer => exec_stageClose hs hsum hl (stageCloseEvent_mismatch hr (mt hagree.1 hdiffer)),
    fun hsame hwait => ?_, fun hsame hready hzero hpaid => ?_, fun hsame hready hcredit e rest he => ?_⟩
  · have hpost : ready.reexamine.post = told ready := by
      rw [reexamine_not_ready hwait]
      exact post_of_bankReady hp (t := ready) rfl rfl rfl
    rw [hclosed hsame hpost, posting_store]
  · obtain ⟨hdeck, hport, hstore, -⟩ := shorted_deck ready
    have hpost : ready.reexamine.post = told ready.shorted := by
      rw [reexamine_short hready hzero hpaid]
      exact post_of_bankReady hp hdeck hport (congrArg SongStore.state hstore)
    rw [hclosed hsame hpost, posting_store, hstore]
  · have hidle : s.port.directive.playOrder = .none := playOrder_of_idle hp hready.1
    refine hclosed hsame ?_
    rw [reexamine_start hready he hcredit]
    exact startEntry_post (s := ready) (.inl (by simp [ready, hidle]))

/-! ## Parts (R205) -/

@[simp] theorem partOf_code (part : Part) : partOf part.code = some part := by cases part <;> rfl

/-- A byte is the code of a part, or lies outside the codes and names none (R205). -/
theorem partOf_cases (b : Byte) : (∃ part : Part, b = part.code) ∨ (partOf b = none ∧ (b.toNat < 1 ∨ 3 < b.toNat)) := by
  by_cases h1 : b = 1#8
  · exact .inl ⟨.part1, h1⟩
  by_cases h2 : b = 2#8
  · exact .inl ⟨.part2, h2⟩
  by_cases h3 : b = 3#8
  · exact .inl ⟨.both, h3⟩
  · exact .inr ⟨by simp [partOf, h1, h2, h3], by bv_omega⟩

theorem partOf_eq_none_iff (b : Byte) : partOf b = none ↔ b.toNat < 1 ∨ 3 < b.toNat := by
  obtain ⟨part, rfl⟩ | ⟨hnone, hrange⟩ := partOf_cases b
  · cases part <;> decide
  · exact iff_of_true hnone hrange

/-! ## NOTE (R59, R60) -/

theorem exec_note {p : List Byte} {check : Byte} {t : State} {a : Answer} (hs : s.AtCheck)
    (hsum : SumsToZero 0x03#8 p check) (hl : p.length = 11) (he : s.stageNoteEvent (noteFieldsOf p) = (t, a)) :
    exec (.note p check) s = .next (t.answered a.code a.payload) := by
  have howner : mediaOwner .note p s = (t, a) := he
  rw [exec_media (k := .note) rfl hs hsum (by simp [MediaKind.lengthFits, hl]) (by omega), howner]

theorem stageNoteEvent_refused {n : NoteFields} {code : ResultCode} (hr : s.store.noteRefusal n = some code) :
    s.stageNoteEvent n = (s, ⟨code, s.store.snapshot⟩) := by
  simp only [stageNoteEvent, hr, stagingAnswer]

theorem stageNoteEvent_accepted {n : NoteFields} {part : Part} {st : SongStore} (hr : s.store.noteRefusal n = none)
    (hpart : n.part = some part) (hst : s.store.setStaging (s.store.staging.storeNote n part) = st) :
    s.stageNoteEvent n = (s.setStore st, ⟨.ok, st.snapshot⟩) := by
  simp only [stageNoteEvent, hr, hpart, stagingAnswer, hst, setStore_store]

theorem noteRefusal_stale {st : SongStore} {n : NoteFields} (hstale : st.state = .empty ∨ st.owner ≠ some n.entryId) :
    st.noteRefusal n = some .stale :=
  if_pos ((isStale_iff _ _).2 hstale)

theorem noteRefusal_notLoading {st : SongStore} {n : NoteFields}
    (hfresh : ¬(st.state = .empty ∨ st.owner ≠ some n.entryId)) (hnot : st.state ≠ .loading) :
    st.noteRefusal n = some .notLoading := by
  refine (if_neg (mt (isStale_iff _ _).1 hfresh)).trans ?_
  cases st.staging.header with
  | none => rfl
  | some h => exact if_pos hnot

/-- A note's start against what its part's microphones reach (R59, step 5). -/
theorem overlaps_iff (m : TrackMarks) (start : Nat) (b : Byte) : overlaps m start (partOf b) = true ↔
    ((b.toNat = 1 ∨ b.toNat = 3) ∧ start < m.part1Reach) ∨ ((b.toNat = 2 ∨ b.toNat = 3) ∧ start < m.part2Reach) := by
  obtain ⟨part, rfl⟩ | ⟨hnone, hrange⟩ := partOf_cases b
  · rw [partOf_code]
    cases part <;> simp [overlaps, Part.code]
  · simp only [hnone, overlaps, Bool.false_eq_true, false_iff]
    omega

/-- The checks of a NOTE in a bank that is being loaded (R59). -/
theorem noteRefusal_loading {st : SongStore} {n : NoteFields} {h : BankHeader} {part : Byte}
    (hfresh : ¬(st.state = .empty ∨ st.owner ≠ some n.entryId)) (hload : st.state = .loading)
    (hh : st.staging.header = some h) (hpart : n.part = partOf part) : st.noteRefusal n =
      if n.index ≠ st.staging.counts.notes ∨ n.start < st.staging.marks.lastNoteStart ∨
        ((part.toNat = 1 ∨ part.toNat = 3) ∧ n.start < st.staging.marks.part1Reach) ∨
        ((part.toNat = 2 ∨ part.toNat = 3) ∧ n.start < st.staging.marks.part2Reach) then some .order
      else if h.notes ≤ st.staging.counts.notes then some .tooLarge
      else if n.duration < 20 ∨ 8000 < n.duration ∨ n.number < 36 ∨ 84 < n.number ∨ part.toNat < 1 ∨ 3 < part.toNat ∨
        h.length < n.start + n.duration then some .badField
      else none := by
  refine (if_neg (mt (isStale_iff _ _).1 hfresh)).trans ?_
  rw [hh, hpart]
  simp only [hload, ne_eq, not_true_eq_false, if_false, overlaps_iff, partOf_eq_none_iff, ← ite_or, or_assoc, gt_iff_lt,
    ge_iff_le]

/-- The reaches after a note, by the part it is for (R60). -/
theorem afterNote_eq (m : TrackMarks) (n : NoteFields) (part : Part) :
    let raised (reach : Nat) := if reach < n.start + n.duration then n.start + n.duration else reach
    m.afterNote n part = { m with
      lastNoteStart := n.start
      part1Reach := if part.code.toNat = 2 then m.part1Reach else raised m.part1Reach
      part2Reach := if part.code.toNat = 1 then m.part2Reach else raised m.part2Reach } := by
  have hmax : ∀ reach, max reach (n.start + n.duration) =
      if reach < n.start + n.duration then n.start + n.duration else reach := fun reach => by split <;> omega
  cases part <;> simp [TrackMarks.afterNote, Part.code, hmax]

/-- Settles O19, one check of the order after the other. -/
theorem noteStoresRecord : Obligations.NoteStoresRecord := by
  intro p check s hs hsum hl hst id index start duration number part b no stale
  have hrefused : ∀ {code}, s.store.noteRefusal (noteFieldsOf p) = some code →
      exec (.note p check) s = .next (no code) := fun hr => exec_note hs hsum hl (stageNoteEvent_refused hr)
  refine ⟨fun hstale => hrefused (noteRefusal_stale hstale),
    fun hfresh hnot => hrefused (noteRefusal_notLoading hfresh hnot), ?_⟩
  intro hfresh hload h hh order bad
  have hchecks : s.store.noteRefusal (noteFieldsOf p) = if order then some .order
      else if h.notes ≤ b.counts.notes then some .tooLarge else if bad then some .badField else none :=
    noteRefusal_loading hfresh hload hh rfl
  refine ⟨fun horder => hrefused (hchecks.trans (if_pos horder)),
    fun horder hlarge => hrefused (hchecks.trans ((if_neg horder).trans (if_pos hlarge))),
    fun horder hfits hbad => hrefused
      (hchecks.trans ((if_neg horder).trans ((if_neg (Nat.not_le.2 hfits)).trans (if_pos hbad)))), ?_⟩
  intro horder hfits hgood pt hpt raised stored
  have haccepted := hchecks.trans ((if_neg horder).trans ((if_neg (Nat.not_le.2 hfits)).trans (if_neg hgood)))
  have hpart : (noteFieldsOf p).part = some pt := by rw [← partOf_code pt, hpt]; rfl
  have hstored : s.store.setStaging (s.store.staging.storeNote (noteFieldsOf p) pt) = stored := by
    rw [Bank.storeNote, afterNote_eq, hpt]
    rfl
  exact exec_note hs hsum hl (stageNoteEvent_accepted haccepted hpart hstored)

end Sys2Proof.Machine
end

section
/-! # LINE records (R48, R53, R56 to R58, R176) -/

namespace Sys2Proof.Machine

open State

variable {s : State}

/-! ## Fields read where they were written (R205) -/

theorem valueOf_field2 {n : Nat} (h : n < 65536) : valueOf (field2 n) = n := by
  simp [valueOf, field2, byteOf]
  omega

theorem valueOf_field3 {n : Nat} (h : n < 16777216) : valueOf (field3 n) = n := by
  simp [valueOf, field3, byteOf]
  omega

theorem byteOf_toNat {n : Nat} (h : n < 256) : (byteOf n).toNat = n := by
  simp [byteOf, h]

theorem fieldAt_append {before : List Byte} {n : Nat} (h : before.length = n) (p : List Byte) (offset size : Nat) :
    fieldAt (before ++ p) (n + offset) size = fieldAt p offset size := by
  rw [fieldAt, fieldAt, ← h, List.drop_length_add_append]

theorem byteAt_append {before : List Byte} {n : Nat} (h : before.length = n) (p : List Byte) (offset : Nat) :
    byteAt (before ++ p) (n + offset) = byteAt p offset := by
  simp [byteAt, ← h, List.getElem?_append_right]

/-! ## Records of one width behind each other -/

theorem length_flatMap_width {α β : Type} {f : α → List β} {w : Nat} (hw : ∀ x, (f x).length = w) (l : List α) :
    (l.flatMap f).length = w * l.length := by
  simp [List.length_flatMap, hw, Nat.mul_comm]

theorem flatMap_width_split {α β : Type} {f : α → List β} {w : Nat} (hw : ∀ x, (f x).length = w) {l : List α} {k : Nat}
    (hk : k < l.length) : ∃ before after, before.length = w * k ∧ l.flatMap f = before ++ (f l[k] ++ after) := by
  refine ⟨(l.take k).flatMap f, (l.drop (k + 1)).flatMap f, ?_, ?_⟩
  · rw [length_flatMap_width hw, List.length_take_of_le hk.le]
  · rw [← List.flatMap_cons, ← List.drop_eq_getElem_cons hk, ← List.flatMap_append, List.take_append_drop]

/-! ## The payload of a LINE (section 11.4) -/

/-- A syllable record. -/
def syllableBytes (y : Syllable) : List Byte := field3 y.offset ++ field2 y.duration ++ [byteOf y.glyphs]

/-- The nine bytes of a LINE before its syllable records. -/
def lineHead (id index start : Nat) (part : Byte) (override count : Nat) : List Byte :=
  [byteOf id, byteOf index] ++ field3 start ++ [part] ++ field2 override ++ [byteOf count]

/-- A LINE as it is carried: its head, its syllable records and its glyph codes. -/
def lineBytes (id index start : Nat) (part : Byte) (override : Nat) (ys : List Syllable) (codes : List (BitVec 16)) :
    List Byte :=
  lineHead id index start part override ys.length ++ ys.flatMap syllableBytes ++ codes.flatMap fun g => field2 g.toNat

/-- The LINE record that this payload carries (R56). -/
def lineRecord (id index start : Nat) (part : Byte) (override : Nat) (ys : List Syllable) (codes : List (BitVec 16)) :
    LineFields :=
  ⟨id, index, start, partOf part, if override = 0 then none else some override, ys, codes⟩

section

variable {id index start override : Nat} {part : Byte} {ys : List Syllable} {codes : List (BitVec 16)}

theorem lineBytes_length : (lineBytes id index start part override ys codes).length =
    9 + 6 * ys.length + 2 * codes.length := by
  unfold lineBytes
  rw [List.length_append, List.length_append, length_flatMap_width (w := 6) (fun _ => rfl),
    length_flatMap_width (w := 2) (fun _ => rfl)]
  rfl

theorem byteAt_lineBytes_count (hn : ys.length < 256) :
    (byteAt (lineBytes id index start part override ys codes) 8).toNat = ys.length :=
  byteOf_toNat hn

/-- A syllable record behind its predecessors is read as the syllable it was written for. -/
theorem syllableAt_append {y : Syllable} (hoffset : y.offset < 16777216) (hduration : y.duration < 65536)
    (hglyphs : y.glyphs < 256) {k : Nat} {before : List Byte} (hbefore : before.length = 9 + 6 * k)
    (after : List Byte) : syllableAt (before ++ (syllableBytes y ++ after)) k = y := by
  have hoffset' : fieldAt (before ++ (syllableBytes y ++ after)) (9 + 6 * k) 3 = y.offset :=
    (fieldAt_append hbefore _ 0 3).trans (valueOf_field3 hoffset)
  have hduration' : fieldAt (before ++ (syllableBytes y ++ after)) (9 + 6 * k + 3) 2 = y.duration :=
    (fieldAt_append hbefore _ 3 2).trans (valueOf_field2 hduration)
  have hglyphs' : (byteAt (before ++ (syllableBytes y ++ after)) (9 + 6 * k + 5)).toNat = y.glyphs :=
    (congrArg BitVec.toNat (byteAt_append hbefore _ 5)).trans (byteOf_toNat hglyphs)
  simp only [syllableAt, hoffset', hduration', hglyphs']

theorem syllablesOf_lineBytes (hn : ys.length < 256)
    (hys : ∀ y ∈ ys, y.offset < 16777216 ∧ y.duration < 65536 ∧ y.glyphs < 256) :
    syllablesOf (lineBytes id index start part override ys codes) = ys := by
  unfold syllablesOf
  rw [byteAt_lineBytes_count hn]
  refine List.ext_getElem (by simp) fun k hk hk' => ?_
  obtain ⟨hoffset, hduration, hglyphs⟩ := hys ys[k] (List.getElem_mem hk')
  obtain ⟨before, after, hbefore, hsplit⟩ := flatMap_width_split (f := syllableBytes) (w := 6) (fun _ => rfl) hk'
  rw [List.getElem_map, List.getElem_range, lineBytes, hsplit, ← List.append_assoc, List.append_assoc,
    List.append_assoc]
  have hplace : (lineHead id index start part override ys.length ++ before).length = 9 + 6 * k := by
    rw [List.length_append, hbefore]
    rfl
  exact syllableAt_append hoffset hduration hglyphs hplace _

theorem glyphBase_lineBytes (hn : ys.length < 256) :
    glyphBase (lineBytes id index start part override ys codes) = 9 + 6 * ys.length := by
  rw [glyphBase, byteAt_lineBytes_count hn]

/-- The glyph codes fill the payload behind the syllable records. -/
theorem glyphCodes_lineBytes (hn : ys.length < 256) :
    (lineFieldsOf (lineBytes id index start part override ys codes)).glyphCodes = codes := by
  have hcount : (9 + 6 * ys.length + 2 * codes.length - (9 + 6 * ys.length)) / 2 = codes.length := by omega
  simp only [lineFieldsOf, glyphBase_lineBytes hn, lineBytes_length, hcount]
  refine List.ext_getElem (by simp) fun k hk hk' => ?_
  obtain ⟨before, after, hbefore, hsplit⟩ :=
    flatMap_width_split (f := fun g : BitVec 16 => field2 g.toNat) (w := 2) (fun _ => rfl) hk'
  have hplace : (lineHead id index start part override ys.length ++ ys.flatMap syllableBytes ++ before).length =
      9 + 6 * ys.length + 2 * k := by
    rw [List.length_append, List.length_append, hbefore, length_flatMap_width (w := 6) (fun _ => rfl)]
    rfl
  have hread := (fieldAt_append hplace (field2 codes[k].toNat ++ after) 0 2).trans (valueOf_field2 codes[k].isLt)
  rw [List.getElem_map, List.getElem_range, lineBytes, hsplit, ← List.append_assoc, ← Nat.add_zero (_ + 2 * k), hread,
    BitVec.ofNat_toNat, BitVec.setWidth_eq]

/-- A LINE is read as it was written (R56, R205). -/
theorem lineFieldsOf_lineBytes (hid : id < 256) (hindex : index < 256) (hstart : start < 16777216)
    (hoverride : override < 65536) (hn : ys.length < 256)
    (hys : ∀ y ∈ ys, y.offset < 16777216 ∧ y.duration < 65536 ∧ y.glyphs < 256) :
    lineFieldsOf (lineBytes id index start part override ys codes) =
      lineRecord id index start part override ys codes := by
  have hstart' : fieldAt (lineBytes id index start part override ys codes) 2 3 = start := valueOf_field3 hstart
  have hoverride' : fieldAt (lineBytes id index start part override ys codes) 6 2 = override := valueOf_field2 hoverride
  unfold lineFieldsOf lineRecord
  rw [LineFields.mk.injEq, hstart', hoverride']
  exact ⟨byteOf_toNat hid, byteOf_toNat hindex, rfl, rfl, rfl, syllablesOf_lineBytes hn hys, glyphCodes_lineBytes hn⟩

/-- A LINE with as many glyph codes as its syllables count has the length it implies (R176). -/
theorem lengthFits_lineBytes (hn : ys.length < 256)
    (hys : ∀ y ∈ ys, y.offset < 16777216 ∧ y.duration < 65536 ∧ y.glyphs < 256)
    (hcodes : codes.length = glyphTotal ys) :
    MediaKind.line.lengthFits (lineBytes id index start part override ys codes) = true := by
  have himplied : impliedLineLength (lineBytes id index start part override ys codes) =
      some (9 + 6 * ys.length + 2 * glyphTotal ys) := by
    unfold impliedLineLength
    rw [if_neg (by rw [lineBytes_length, glyphBase_lineBytes hn]; omega), glyphBase_lineBytes hn,
      syllablesOf_lineBytes hn hys]
  rw [MediaKind.lengthFits, himplied, lineBytes_length, hcodes, beq_self_eq_true]

end

/-! ## The checks of a LINE (R56, R57) -/

theorem lineRefusal_stale {st : SongStore} {l : LineFields} (hstale : st.state = .empty ∨ st.owner ≠ some l.entryId) :
    st.lineRefusal l = some .stale :=
  if_pos ((isStale_iff _ _).2 hstale)

theorem lineRefusal_notLoading {st : SongStore} {l : LineFields}
    (hfresh : ¬(st.state = .empty ∨ st.owner ≠ some l.entryId)) (hnot : st.state ≠ .loading) :
    st.lineRefusal l = some .notLoading := by
  refine (if_neg (mt (isStale_iff _ _).1 hfresh)).trans ?_
  cases st.staging.header with
  | none => rfl
  | some h => exact if_pos hnot

/-- The checks of a LINE in a bank that is being loaded (R56, R57). -/
theorem lineRefusal_loading {st : SongStore} {l : LineFields} {h : BankHeader}
    (hfresh : ¬(st.state = .empty ∨ st.owner ≠ some l.entryId)) (hload : st.state = .loading)
    (hh : st.staging.header = some h) : st.lineRefusal l =
      if l.index ≠ st.staging.counts.lines ∨ l.start < st.staging.marks.lastLineEnd ∨
        syllablesOrdered l.syllables = false then some .order
      else if h.lines < st.staging.counts.lines + 1 ∨ h.syllables < st.staging.counts.syllables + l.syllables.length ∨
        h.glyphs < st.staging.counts.glyphs + glyphTotal l.syllables then some .tooLarge
      else if lineFieldsBad h.length l = true then some .badField
      else none := by
  refine (if_neg (mt (isStale_iff _ _).1 hfresh)).trans ?_
  rw [hh]
  simp only [hload, ne_eq, not_true_eq_false, if_false, ← ite_or, Bool.not_eq_true', gt_iff_lt]

/-- Syllables are out of order exactly where one begins before its predecessor has ended (R56, step 5). -/
theorem syllablesOrdered_eq_false_iff (ys : List Syllable) : syllablesOrdered ys = false ↔
    ∃ k x y, ys[k]? = some x ∧ ys[k + 1]? = some y ∧ y.offset < x.offset + x.duration := by
  induction ys using syllablesOrdered.induct with
  | case1 => simp [syllablesOrdered]
  | case2 x => simp [syllablesOrdered]
  | case3 x y rest ih =>
    rw [syllablesOrdered, Bool.and_eq_false_iff, decide_eq_false_iff_not, ih]
    constructor
    · rintro (hfirst | ⟨k, a, b, ha, hb, hlate⟩)
      · exact ⟨0, x, y, rfl, rfl, Nat.not_le.1 hfirst⟩
      · exact ⟨k + 1, a, b, ha, hb, hlate⟩
    · rintro ⟨_ | k, a, b, ha, hb, hlate⟩
      · cases ha
        cases hb
        exact .inl (Nat.not_le.2 hlate)
      · exact .inr ⟨k, a, b, ha, hb, hlate⟩

theorem lineEnd_eq (start : Nat) (ys : List Syllable) :
    lineEnd start ys = (ys.getLast?.map fun y => start + y.offset + y.duration).getD start := by
  unfold lineEnd
  cases ys.getLast? <;> rfl

/-- A field out of range, in a LINE that carries its glyph codes (R57, step 2). -/
theorem lineFieldsBad_iff {id index start override length : Nat} {part : Byte} {ys : List Syllable}
    {codes : List (BitVec 16)} (hcodes : codes.length = glyphTotal ys) :
    lineFieldsBad length (lineRecord id index start part override ys codes) = true ↔
      (part.toNat < 1 ∨ 3 < part.toNat) ∨ (override ≠ 0 ∧ (override < 150 ∨ 2000 < override)) ∨
      (ys.length = 0 ∨ 32 < ys.length) ∨ (∃ y ∈ ys, y.duration < 1 ∨ 8000 < y.duration) ∨
      (∃ y ∈ ys, y.glyphs < 1 ∨ 16 < y.glyphs) ∨ length < lineEnd start ys := by
  by_cases hzero : override = 0 <;>
    simp only [lineFieldsBad, lineRecord, hzero, if_true, if_false, Bool.or_eq_true, Option.isNone_iff_eq_none,
      partOf_eq_none_iff, decide_eq_true_eq, List.any_eq_true, hcodes, ne_eq, not_true_eq_false, not_false_eq_true,
      true_and, false_and, Bool.false_eq_true, or_false, false_or, gt_iff_lt, or_assoc]

/-! ## The command -/

theorem exec_line {p : List Byte} {check : Byte} {t : State} {a : Answer} (hs : s.AtCheck)
    (hsum : SumsToZero 0x02#8 p check) (hl : MediaKind.line.lengthFits p = true) (hcap : p.length ≤ 1280)
    (he : s.stageLineEvent (lineFieldsOf p) = (t, a)) :
    exec (.line p check) s = .next (t.answered a.code a.payload) := by
  have howner : mediaOwner .line p s = (t, a) := he
  rw [exec_media (k := .line) rfl hs hsum hl hcap, howner]

theorem stageLineEvent_refused {l : LineFields} {code : ResultCode} (hr : s.store.lineRefusal l = some code) :
    s.stageLineEvent l = (s, ⟨code, s.store.snapshot⟩) := by
  simp only [stageLineEvent, hr, stagingAnswer]

theorem stageLineEvent_accepted {l : LineFields} {part : Part} {st : SongStore} (hr : s.store.lineRefusal l = none)
    (hpart : l.part = some part) (hst : s.store.setStaging (s.store.staging.storeLine l part) = st) :
    s.stageLineEvent l = (s.setStore st, ⟨.ok, st.snapshot⟩) := by
  simp only [stageLineEvent, hr, hpart, stagingAnswer, hst, setStore_store]

/-- Settles O18: the payload is read as it was written, and then one check of the order comes after the other. -/
theorem lineStoresRecord : Obligations.LineStoresRecord := by
  intro id index start part override ys codes check s two three p hid hindex hstart hoverride hn hys hcodes hcap hs hsum
    hst b c no stale overlapping finish
  have hexec : ∀ {t a}, s.stageLineEvent (lineRecord id index start part override ys codes) = (t, a) →
      exec (.line p check) s = .next (t.answered a.code a.payload) := fun he =>
    exec_line hs hsum (lengthFits_lineBytes hn hys hcodes) hcap
      (lineFieldsOf_lineBytes hid hindex hstart hoverride hn hys ▸ he)
  have hrefused : ∀ {code}, s.store.lineRefusal (lineRecord id index start part override ys codes) = some code →
      exec (.line p check) s = .next (no code) := fun hr => hexec (stageLineEvent_refused hr)
  refine ⟨fun hstale => hrefused (lineRefusal_stale hstale),
    fun hfresh hnot => hrefused (lineRefusal_notLoading hfresh hnot), ?_⟩
  intro hfresh hload h hh order tooLarge bad
  have hchecks := lineRefusal_loading (l := lineRecord id index start part override ys codes) hfresh hload hh
  have horder : order ↔ index ≠ c.lines ∨ start < b.marks.lastLineEnd ∨ syllablesOrdered ys = false := by
    rw [syllablesOrdered_eq_false_iff]
  have hglyphs : glyphTotal ys = codes.length := hcodes.symm
  have hlarge : tooLarge ↔ h.lines < c.lines + 1 ∨ h.syllables < c.syllables + ys.length ∨
      h.glyphs < c.glyphs + glyphTotal ys := by
    rw [hglyphs]
  have hfinish : lineEnd start ys = finish := lineEnd_eq start ys
  have hbad : lineFieldsBad h.length (lineRecord id index start part override ys codes) = true ↔ bad := by
    rw [lineFieldsBad_iff hcodes, hfinish]
  refine ⟨fun ho => hrefused (hchecks.trans (if_pos (horder.1 ho))),
    fun ho hl => hrefused (hchecks.trans ((if_neg (mt horder.2 ho)).trans (if_pos (hlarge.1 hl)))),
    fun ho hl hb => hrefused
      (hchecks.trans ((if_neg (mt horder.2 ho)).trans ((if_neg (mt hlarge.2 hl)).trans (if_pos (hbad.2 hb))))), ?_⟩
  intro ho hl hb pt hpt stored
  have haccepted := hchecks.trans
    ((if_neg (mt horder.2 ho)).trans ((if_neg (mt hlarge.2 hl)).trans (if_neg (mt hbad.1 hb))))
  have hpart : (lineRecord id index start part override ys codes).part = some pt := by rw [← partOf_code pt, hpt]; rfl
  have hstored : s.store.setStaging (s.store.staging.storeLine (lineRecord id index start part override ys codes) pt) =
      stored := by
    simp only [Bank.storeLine, lineRecord, hfinish, hglyphs]
    rfl
  exact hexec (stageLineEvent_accepted haccepted hpart hstored)

end Sys2Proof.Machine
end

section
/-! # The end of a song: SKIP NOW, STOP SONG and the deck's timers (R73, R81, R87 to R91, R162 to R166) -/

namespace Sys2Proof.Machine

open State

variable {s : State}

/-! ## Records (R89, R162, R163, R165, R166) -/

/-- A board in order has a place for a score exactly where fewer than eight of its scores are as high (R166). -/
theorem boardTakes_iff {v : Results} (h : v.Rule) (score : Nat) :
    boardTakes v.board score = true ↔ v.hasPlaceFor score := by
  obtain ⟨hhigh, hlow⟩ := boardRank_split h.boardOrder score
  have hsize := h.boardSize
  have hrank : boardRank v.board score ≤ v.board.length := List.countP_le_length
  change _ ↔ boardRank v.board score < 8
  simp only [boardTakes, Config.boardSize, Bool.or_eq_true, decide_eq_true_eq]
  by_cases hfull : v.board.length < 8
  · exact ⟨fun _ => by omega, fun _ => .inl hfull⟩
  · have h7 : 7 < v.board.length := by omega
    rw [List.getElem?_eq_getElem h7]
    simp only [hfull, false_or, decide_eq_true_eq]
    constructor
    · intro hlast
      by_contra hr
      have hmem : v.board[7] ∈ v.board.take (boardRank v.board score) :=
        List.mem_take_iff_getElem.2 ⟨7, by omega, rfl⟩
      exact absurd (hhigh _ hmem) (by omega)
    · intro hr
      refine hlow _ (List.mem_drop_iff_getElem.2 ⟨7 - boardRank v.board score, by omega, ?_⟩)
      congr 1
      omega

theorem gradedRecord_eq (e : Entry) (o : SongOutcome) (t : Nat) (f : Option FinalReport) (n : Nat) :
    { gradedRecord e o t f with finish := n } = e.record o f t n := by
  cases f <;> rfl

theorem nextFinish_results (s : State) : s.results.nextFinish = s.nextFinish := nextFinish_eq _

/-- A record is inserted on the board where its song is COMPLETED, has a score with a place, and no invalid flag (R165,
R166). -/
theorem inserts_iff {v : Results} (h : v.Rule) (r : HistoryRecord) : v.inserts r = true ↔
    r.outcome = .completed ∧ r.invalid = false ∧ ∃ score, r.entryScore = some score ∧ v.hasPlaceFor score := by
  cases hs : r.entryScore <;> simp [Results.inserts, HistoryRecord.qualifies, hs, boardTakes_iff h, and_assoc]

/-- A record that the board does not take is added to the history alone (R163). -/
theorem addRecord_not_inserted {r : HistoryRecord} (h : s.results.inserts r = false) :
    s.addRecord r = s.archived { r with finish := s.nextFinish } := by
  unfold addRecord
  simp only [Results.add, h, nextFinish_results]
  rfl

/-- A record added is offered to the board (R163, R165, R166). -/
theorem addRecord_archives (h : s.results.Rule) (r : HistoryRecord) :
    s.Archives { r with finish := s.nextFinish } (s.addRecord r) := by
  refine ⟨fun score ho hscore hvalid hplace => ?_, fun hno => ?_⟩
  · have hinserts : s.results.inserts r = true := (inserts_iff h r).2 ⟨ho, hvalid, score, hscore, hplace⟩
    have hrecord : ({ r with finish := s.nextFinish } : HistoryRecord).boardRecord =
        ⟨score, r.song, r.singer, r.origin, r.micMode, r.id, s.nextFinish⟩ := by
      simp_all [HistoryRecord.boardRecord]
    unfold addRecord
    simp only [Results.add, hinserts, nextFinish_results, hrecord, if_true]
    rfl
  · refine addRecord_not_inserted (Bool.eq_false_iff.2 fun hinserts => ?_)
    obtain ⟨ho, hvalid, score, hscore, hplace⟩ := (inserts_iff h r).1 hinserts
    obtain hno | hno | hno | ⟨other, hother, hfull⟩ := hno
    · exact hno ho
    · exact absurd (hno.symm.trans hscore) (by simp)
    · exact absurd (hno.symm.trans hvalid) (by simp)
    · obtain rfl : other = score := Option.some.inj (hother.symm.trans hscore)
      exact hfull hplace

/-! ## Finalisation (R89) -/

/-- The end of a song that never reached playing, the grader as the start left it: no scores, and a record without them
(R89). -/
theorem finalise_unplayed {e : Entry} (he : s.deck.current = some e) (hreached : s.deck.reached = false)
    (hmode : s.grader.mode = .following) (hinbox : s.grader.inbox = []) (o : SongOutcome) (t : Nat) :
    s.finalise o t = ((s.setDeck s.deck.finishEntry).setGrader { s.grader with mode := .final, report := none }).archived
      (e.record o none 0 s.nextFinish) := by
  have hgrader : (s.grader.takeAll s.store.playing.notes s.deck.key).songEnded =
      { s.grader with mode := .final, report := none } := by
    rw [grader_takeAll_drained hinbox, Grader.songEnded, if_pos hmode]
  have hinserts : s.results.inserts (ungradedRecord e o) = false := by
    simp [Results.inserts, HistoryRecord.qualifies, ungradedRecord]
  have hended : s.graderSongEnded = s.setGrader { s.grader with mode := .final, report := none } := by
    rw [← hgrader]; rfl
  unfold finalise
  simp only [he, hreached, hended]
  exact addRecord_not_inserted hinserts

/-- The end of a song that reached playing: its final scores, and the record that carries them (R89, R151, R162). -/
theorem finalise_played {e : Entry} (he : s.deck.current = some e) (hreached : s.deck.reached = true) {graded : Grader}
    {t : Nat} (hgraded : (s.grader.takeAll s.store.playing.notes e.keyShift).finalScores s.store.playing.notes e.keyShift t =
      graded) (o : SongOutcome) :
    s.finalise o t = ((s.setDeck s.deck.finishEntry).setGrader graded).addRecord (gradedRecord e o t graded.report) := by
  have hkey : s.deck.key = e.keyShift := by simp [Deck.key, he]
  have hfinal : s.graderFinalScores t = s.setGrader graded := by rw [← hgraded, ← hkey]; rfl
  unfold finalise
  simp only [he, hreached, hfinal]
  rfl

/-- Only a COMPLETED song's record reaches the board (R165). -/
theorem addRecord_ended {o : SongOutcome} (ho : o ≠ .completed) (e : Entry) (t : Nat) (f : Option FinalReport) :
    s.addRecord (gradedRecord e o t f) = s.archived (e.record o f t s.nextFinish) := by
  have hinserts : s.results.inserts (gradedRecord e o t f) = false := by
    have : (gradedRecord e o t f).outcome = o := by cases f <;> rfl
    simp [Results.inserts, HistoryRecord.qualifies, this, ho]
  rw [addRecord_not_inserted hinserts, gradedRecord_eq]

/-! ## The directive (R69, R180) -/

/-- A deck event that changes the play order alone of what the directive says (R69, R180). -/
theorem post_ordered (hp : s.Posted) {t : State} {o : PlayOrder} (hstore : t.store = s.store)
    (hroom : t.room.entries = s.room.entries) (hport : t.port = s.port) (hidle : s.deck.state ≠ .idle)
    (hstate : t.deck.state ≠ .idle) (hid : t.deck.stopId = s.deck.stopId) (hsong : t.deck.song = s.deck.song)
    (hkey : t.deck.key = s.deck.key) (ho : t.deck.playOrder = o) (hne : s.deck.playOrder ≠ o) :
    t.post = t.setPort (s.port.ordered o) := by
  obtain ⟨horder, hplayId, hplaySong, hkeyShift⟩ := posted_play hp
  rw [if_neg hidle] at hplayId hplaySong hkeyShift
  have hnow : t.directiveNow = { s.port.directive with playOrder := o } := by
    rw [directiveNow_deck hp hstore hroom]
    simp only [ho, if_neg hstate, hid, hsong, hkey, ← hplayId, ← hplaySong, ← hkeyShift]
  have hdiffers : ({ s.port.directive with playOrder := o } : DirectiveFields) ≠ t.port.directive := fun h =>
    hne (by rw [← horder, ← hport, ← h])
  rw [post_of_directiveNow hnow, posting, if_neg hdiffers, hport]
  rfl

/-- No flag is part of what is posted (R69, R180). -/
theorem post_raise (s : State) (f : EventFlag) : (s.raise f).post = s.post.raise f := by
  have hnow : (s.raise f).directiveNow = s.directiveNow := rfl
  unfold post
  rw [hnow, raise_port]
  split <;> rfl

/-! ## The end of a song by the deck (R73, R81, R88) -/

/-- A deck that enters STOPPING with its entry finished: play time is frozen and the stop timer alone is armed (R68, R88). -/
theorem Deck.enterStopping_finishEntry {d : Deck} {e : Entry} (he : d.current = some e) :
    d.enterStopping.finishEntry = { d with
      state := .stopping, current := some { e with id := 0 }, floor := d.playTime, startTimer := none, stallTimer := none,
      stallLimit := none, stopTimer := some 2000 } := by
  simp [Deck.finishEntry, Deck.enterStopping, Deck.freeze, Deck.disarm, he]

/-- The deck's end of a song posts STOP (R69). -/
theorem endSong_post (hp : s.Posted) (hidle : s.deck.state ≠ .idle) (hstop : s.deck.state ≠ .stopping)
    (o : SongOutcome) : (s.endSong o).post = (s.endSong o).setPort (s.port.ordered .stop) := by
  have hdeck : (s.endSong o).deck = s.deck.enterStopping.finishEntry := by simp [endSong]
  have hrest : s.deck.enterStopping.finishEntry.song = s.deck.song ∧
      s.deck.enterStopping.finishEntry.key = s.deck.key := by
    cases he : s.deck.current <;>
      simp [Deck.song, Deck.key, Deck.finishEntry, Deck.enterStopping, Deck.freeze, Deck.disarm, he]
  refine post_ordered hp (by simp [endSong]) (by simp [endSong]) (by simp [endSong]) hidle ?_ ?_ ?_ ?_ ?_ ?_
  · simp [hdeck, Deck.finishEntry, Deck.enterStopping]
  · rw [hdeck]; rfl
  · rw [hdeck, hrest.1]
  · rw [hdeck, hrest.2]
  · rw [hdeck]; rfl
  · unfold Deck.playOrder
    split <;> simp_all

/-- A song that never reached playing, ended by the deck: recorded without scores, and STOPPING (R73, R88, R89). -/
theorem endSong_unplayed (hp : s.Posted) {e : Entry} (hstate : s.deck.state = .starting) (he : s.deck.current = some e)
    (hreached : s.deck.reached = false) (hfloor : s.deck.floor = 0) (hmode : s.grader.mode = .following)
    (hinbox : s.grader.inbox = []) (o : SongOutcome) :
    (s.endSong o).post = ((s.stopping e 0).setGrader { s.grader with mode := .final, report := none }).archived
      (e.record o none 0 s.nextFinish) := by
  have hend : s.endSong o = ((s.setDeck s.deck.enterStopping.finishEntry).setGrader
      { s.grader with mode := .final, report := none }).archived (e.record o none 0 s.nextFinish) :=
    finalise_unplayed (s := s.setDeck s.deck.enterStopping) he hreached hmode hinbox o _
  have htime : s.deck.playTime = 0 := by rw [Deck.playTime_of_not_playing (by simp [hstate]), hfloor]
  rw [endSong_post hp (by simp [hstate]) (by simp [hstate]), hend, Deck.enterStopping_finishEntry he, htime]
  rfl

/-- A song that reached playing, ended by the deck before its end: graded, recorded, and STOPPING (R81, R88, R89). -/
theorem endSong_played (hp : s.Posted) {e : Entry} (hidle : s.deck.state ≠ .idle) (hstarting : s.deck.state ≠ .starting)
    (hstop : s.deck.state ≠ .stopping) (he : s.deck.current = some e) (hreached : s.deck.reached = true) {graded : Grader}
    {t : Nat} (ht : s.deck.playTime = t)
    (hgraded : (s.grader.takeAll s.store.playing.notes e.keyShift).finalScores s.store.playing.notes e.keyShift t = graded)
    {o : SongOutcome} (ho : o ≠ .completed) :
    (s.endSong o).post =
      ((s.stopping e t).setGrader graded).archived (e.record o graded.report t s.nextFinish) := by
  have hend : s.endSong o = ((s.setDeck s.deck.enterStopping.finishEntry).setGrader graded).archived
      (e.record o graded.report t s.nextFinish) := by
    rw [endSong, if_neg hstarting, ht,
      finalise_played (s := s.setDeck s.deck.enterStopping) (e := e) he hreached hgraded o, addRecord_ended ho]
    rfl
  rw [endSong_post hp hidle hstop, hend, Deck.enterStopping_finishEntry he, ht]
  rfl

/-! ## SKIP NOW and STOP SONG (R87, R88) -/

theorem exec_skipNow {l : PanelLine} {p : List Byte} (hs : s.Takes l) (hl : p.length = 1) :
    exec (.skipNow l p) s = .next ((s.skipEvent (byteAt p 0).toNat).1.replied l
      (requestReply 0x13#8 (s.skipEvent (byteAt p 0).toNat).2)) :=
  exec_panel (k := .skipNow) rfl hs hl

theorem exec_stopSong (hs : s.AtWrite) : exec (.stopSong []) s = .next (s.stopSongEvent.1.recorded s.stopSongEvent.2.code
    0x4F#8 s.stopSongEvent.2.payload) :=
  exec_desk (k := .stopSong) rfl hs rfl (by simp)

/-- A SKIP NOW refused: the first of its checks that fails decides (R87). -/
theorem skipEvent_refused (i : Nat) :
    (s.desk.settings.skipAllowed = false → s.skipEvent i = (s, .bare .noSkip)) ∧
    (s.desk.settings.skipAllowed = true → s.deck.state = .idle ∨ s.deck.state = .stopping →
      s.skipEvent i = (s, .bare .notPlaying)) ∧
    (s.desk.settings.skipAllowed = true → ¬(s.deck.state = .idle ∨ s.deck.state = .stopping) →
      s.deck.current.map (·.id) ≠ some i → s.skipEvent i = (s, .bare .stale)) := by
  refine ⟨fun ha => ?_, fun ha hd => ?_, fun ha hd hi => ?_⟩
  · simp [skipEvent, ha]
  · rw [skipEvent, ha, if_neg (by simp), if_pos hd]
  · rw [skipEvent, ha, if_neg (by simp), if_neg hd, if_pos hi]

/-- Both requests end the song where no check refuses them (R88). -/
theorem skipAndStop_taken (hd : ¬(s.deck.state = .idle ∨ s.deck.state = .stopping)) :
    s.stopSongEvent = ((s.endSong .stopped).post, .bare .ok) ∧
    ∀ i, s.desk.settings.skipAllowed = true → s.deck.current.map (·.id) = some i →
      s.skipEvent i = ((s.endSong .skipped).post, .bare .ok) := by
  refine ⟨if_neg hd, fun i ha hi => ?_⟩
  rw [skipEvent, ha, if_neg (by simp), if_neg hd, if_neg (by simp [hi])]

/-- Settles O27: the checks in their order, and then the end of the song as its entry did or did not reach playing. -/
theorem skipAndStopSong : Obligations.SkipAndStopSong := by
  intro l p s hl no ended other
  obtain ⟨hnoSkip, hnotPlaying, hstale⟩ := skipEvent_refused (s := s) (byteAt p 0).toNat
  refine ⟨fun hs => ⟨fun ha => ?_, fun ha hd => ?_, fun ha hd hi => ?_⟩, fun hs hd => ?_, fun hd hp e he => ?_⟩
  · rw [exec_skipNow hs hl, hnoSkip ha]; rfl
  · rw [exec_skipNow hs hl, hnotPlaying ha hd]; rfl
  · rw [exec_skipNow hs hl, hstale ha hd hi]; rfl
  · rw [exec_stopSong hs, stopSongEvent, if_pos hd]; rfl
  · intro Ends notes now graded
    obtain ⟨hstopTaken, hskipTaken⟩ := skipAndStop_taken hd
    have hends : ∀ t : SongOutcome → State, (∀ o, o ≠ .completed → (s.endSong o).post = t o) → Ends t := by
      refine fun t ht => ⟨fun hs ha hi => ?_, fun hs => ?_⟩
      · rw [exec_skipNow hs hl, hskipTaken _ ha (not_not.1 hi), ht _ (by simp)]; rfl
      · rw [exec_stopSong hs, hstopTaken, ht _ (by simp)]; rfl
    obtain ⟨hidle, hstop⟩ := not_or.1 hd
    exact ⟨fun hstate hreached hfloor hmode hinbox => hends _ fun o _ =>
        endSong_unplayed hp hstate he hreached hfloor hmode hinbox o,
      fun hstarting hreached => hends _ fun o ho => endSong_played hp hidle hstarting hstop he hreached rfl rfl ho⟩

/-! ## The expiries of the deck's timers (R73, R81, R91) -/

/-- The return to IDLE of a deck whose directive is as posted, from STOPPING or with a stop id that no entry of the queue
carries; the deck it is given plays no part in it (R69, R90, R91). -/
theorem idleEvent_idled (hp : s.Posted) {t : State} (hstore : t.store = s.store) (hroom : t.room = s.room)
    (hport : t.port = s.port) (hn : s.deck.state = .stopping ∨ s.deck.stopId ∉ s.room.entries.map (·.id)) :
    t.Idled t.idleEvent := by
  obtain ⟨horder, hid, -, -⟩ := posted_play hp
  have hsong : t.ownerSong = s.ownerSong := by rw [ownerSong, ownerSong, hstore, hroom]
  refine idleEvent_spec ?_ ?_
  · rw [hport, hstore, hsong]
    exact posted_stage hp
  · rw [hport, hroom, horder, hid]
    by_cases hidle : s.deck.state = .idle
    · exact .inl (by simp [Deck.playOrder, hidle])
    · rw [if_neg hidle]
      exact hn.imp_left fun h => by simp [Deck.playOrder, h]

theorem idled_setDeck (s t : State) (d : Deck) : (s.setDeck d).Idled t ↔ s.Idled t := Iff.rfl

theorem exec_startTimerExpiry (hrun : s.running = true) : exec .startTimerExpiry s = .next
    (if s.deck.state = .starting ∧ s.deck.startTimer = some 0 then (s.endSong .noStart).post else s) :=
  congrArg _ (live_running hrun _)

theorem exec_stallLimitExpiry (hrun : s.running = true) : exec .stallLimitExpiry s = .next
    (if s.deck.state = .stalled ∧ s.deck.stallLimit = some 0 then ((s.endSong .mediaLost).raise .mediaLost).post else s) :=
  congrArg _ (live_running hrun _)

theorem exec_stopTimerExpiry (hrun : s.running = true) : exec .stopTimerExpiry s = .next
    (if s.deck.state = .stopping ∧ s.deck.stopTimer = some 0 then s.idleEvent else s) :=
  congrArg _ (live_running hrun _)

/-- Settles O28: each row in its own deck state with its timer run out, and each row elsewhere. -/
theorem deckTimerExpiries : Obligations.DeckTimerExpiries := by
  intro s hrun notes
  rw [exec_startTimerExpiry hrun, exec_stallLimitExpiry hrun, exec_stopTimerExpiry hrun]
  refine ⟨fun hd ht hp hreached hfloor hmode hinbox e he => ?_, fun hd ht hp hreached e he => ?_, fun hd ht hp => ?_,
    fun hno => ?_, fun hno => ?_, fun hno => ?_⟩
  · rw [if_pos ⟨hd, ht⟩, endSong_unplayed hp hd he hreached hfloor hmode hinbox]
  · intro graded
    have htime : s.deck.playTime = s.deck.floor := Deck.playTime_of_not_playing (by simp [hd])
    rw [if_pos ⟨hd, ht⟩, post_raise,
      endSong_played hp (by simp [hd]) (by simp [hd]) (by simp [hd]) he hreached htime rfl (by simp)]
  · rw [if_pos ⟨hd, ht⟩]
    exact ⟨_, rfl, idleEvent_idled hp rfl rfl rfl (.inl hd)⟩
  all_goals rw [if_neg (not_and_or.2 hno)]

end Sys2Proof.Machine
end

section
/-! # Time marks refused, END marks, HOLD and GO (R74 to R76, R79, R82, R84, R86, R89 to R91) -/

namespace Sys2Proof.Machine

open State

variable {s : State}

/-! ## The checks of a time mark (R75, R79) -/

theorem exec_timeMark {c : Instr} {p : List Byte} {check : Byte} (hc : c = .timeMarkRun p check ∨ c = .timeMarkEnd p check)
    (hs : s.AtCheck) (hsum : SumsToZero 0x06#8 p check) (hl : p.length = 5) : exec c s = .next
      ((s.takeMark (byteAt p 0).toNat (fieldAt p 1 3) (byteAt p 4)).1.answered
        (s.takeMark (byteAt p 0).toNat (fieldAt p 1 3) (byteAt p 4)).2.code
        (s.takeMark (byteAt p 0).toNat (fieldAt p 1 3) (byteAt p 4)).2.payload) :=
  exec_media (k := .timeMark) (by obtain rfl | rfl := hc <;> rfl) hs hsum (by simp [MediaKind.lengthFits, hl]) (by omega)

theorem markKindOf_eq_none {b : Byte} (hrun : b ≠ 1#8) (hend : b ≠ 2#8) : markKindOf b = none := by
  simp [markKindOf, hrun, hend]

theorem Deck.playTime_eq (d : Deck) : d.playTime = if d.state ≠ .playing then d.floor
    else if 3599999 < max d.floor (d.lastMark + d.elapsed) then 3599999 else max d.floor (d.lastMark + d.elapsed) := by
  unfold playTime
  by_cases hd : d.state = .playing
  · rw [if_pos hd, if_neg (not_not.2 hd), ← min_eq_if]
  · rw [if_neg hd, if_pos hd]

/-- Settles O22: play time, and the checks of a time mark one after the other. -/
theorem timeMarkRefusals : Obligations.TimeMarkRefusals := by
  refine ⟨Deck.playTime_eq, ?_⟩
  intro c p check s hc hs hsum hl unmatched no
  rw [exec_timeMark hc hs hsum hl]
  refine ⟨fun hu => ?_, fun hu hbad => ?_⟩
  · rw [takeMark, if_pos hu]; rfl
  · have hrefused : s.takeMark (byteAt p 0).toNat (fieldAt p 1 3) (byteAt p 4) = (s, ⟨.badField, s.deck.snapshot⟩) := by
      rw [takeMark, if_neg hu]
      by_cases hm : fieldAt p 1 3 > Config.maxPlayTime
      · rw [if_pos hm]
      · rw [if_neg hm, markKindOf_eq_none (hbad.resolve_left hm).1 (hbad.resolve_left hm).2]
    rw [hrefused]; rfl

/-- An END mark for the stop id at a time in range is taken as the deck's state says, and answered OK with the deck's
snapshot (R79, section 11.4). -/
theorem takeMark_end {t : State} {m : Nat} (hidle : s.deck.state ≠ .idle) (hm : m ≤ 3599999)
    (hend : s.takeEnd m = (t, .ok)) : s.takeMark s.deck.stopId m 2#8 = (t, ⟨.ok, t.deck.snapshot⟩) := by
  rw [takeMark, if_neg (by simp [hidle]), if_neg (by simp; omega)]
  simp only [show markKindOf 2#8 = some .finish from rfl, hend]

/-! ## END marks (R74, R86, R91) -/

theorem takeEnd_starting {m : Nat} (h : s.deck.state = .starting) :
    s.takeEnd m = ((s.finalise .noStart 0).idleEvent, .ok) := by
  rw [takeEnd, h]

theorem takeEnd_stopping {m : Nat} (h : s.deck.state = .stopping) : s.takeEnd m = (s.idleEvent, .ok) := by
  rw [takeEnd, h]

/-- An END mark taken by a deck that plays or has stalled: marked as by a RUN mark, and completed at the play time that
leaves (R86). -/
theorem takeEnd_playing {m : Nat} (h : s.deck.state = .playing ∨ s.deck.state = .stalled)
    (hfloor : s.deck.floor ≤ 3599999) (hm : m ≤ 3599999) : s.takeEnd m =
      ((((s.handed ⟨s.deck.markKind m, s.deck.markFloor m⟩).setDeck (s.deck.runMark m)).finalise .completed
        (s.deck.markFloor m)).idleEvent, .ok) := by
  have htime := Deck.runMark_playTime hfloor hm
  rw [← htime]
  obtain h | h := h <;> rw [takeEnd, h] <;> rfl

/-- An END mark taken in PAUSED completes the song at the play time it stands at (R86). -/
theorem takeEnd_paused {m : Nat} (h : s.deck.state = .paused) :
    s.takeEnd m = (((s.setDeck (s.deck.pausedMark m)).finalise .completed s.deck.playTime).idleEvent, .ok) := by
  have htime : (s.deck.pausedMark m).playTime = s.deck.playTime := by simp [Deck.playTime, Deck.pausedMark, h]
  rw [← htime, takeEnd, h]
  rfl

theorem addRecord_setDeck (s : State) (d : Deck) (r : HistoryRecord) :
    (s.setDeck d).addRecord r = (s.addRecord r).setDeck d := by
  unfold addRecord
  rw [setDeck_results]
  dsimp only
  split <;> rfl

/-- A completed song: its record archived and offered to the board, and then the deck returns to IDLE, whatever it held
(R86, R89, R90). -/
theorem completed_idled (hp : s.Posted) (hr : s.results.Rule) (hn : s.deck.stopId ∉ s.room.entries.map (·.id))
    {marked : State} {d : Deck} {e : Entry} {graded : Grader} {t : Nat} (hstore : marked.store = s.store)
    (hroom : marked.room = s.room) (hport : marked.port = s.port) (hresults : marked.results = s.results)
    (he : d.current = some e) (hreached : d.reached = true)
    (hgraded : (marked.grader.takeAll s.store.playing.notes e.keyShift).finalScores s.store.playing.notes e.keyShift t =
      graded) :
    ∃ u, u.Idled ((marked.setDeck d).finalise .completed t).idleEvent ∧
      (marked.setGrader graded).Archives (e.record .completed graded.report t s.nextFinish) u := by
  have hfinish : marked.nextFinish = s.nextFinish := by rw [nextFinish, hresults, nextFinish]
  have hidled := idleEvent_idled (t := (marked.setDeck d).finalise .completed t) hp (by simp [hstore]) (by simp [hroom])
    (by simp [hport]) (.inr hn)
  have hsong := finalise_played (s := marked.setDeck d) he hreached
    (graded := graded) (by rw [← hgraded, ← hstore]; rfl) .completed
  have hdeck : (marked.setDeck d).finalise .completed t =
      ((marked.setGrader graded).addRecord (gradedRecord e .completed t graded.report)).setDeck d.finishEntry := by
    rw [hsong, ← addRecord_setDeck]; rfl
  refine ⟨(marked.setGrader graded).addRecord (gradedRecord e .completed t graded.report), ?_, ?_⟩
  · rw [← idled_setDeck _ _ d.finishEntry, ← hdeck]
    exact hidled
  · rw [← gradedRecord_eq, ← hfinish]
    exact addRecord_archives (s := marked.setGrader graded) (hresults ▸ hr) _

/-- Settles O24, one state of the deck after the other: what the song leaves, and the return to IDLE. -/
theorem endMarkInEachState : Obligations.EndMarkInEachState := by
  intro p check s hs hsum hl hkind hid hfloor hm hp hr hn m now Answers
  have hanswers : s.deck.state ≠ .idle → ∀ t, s.takeEnd m = (t, .ok) → Answers t := by
    intro hidle t hend
    change exec _ s = _
    rw [exec_timeMark (.inr rfl) hs hsum hl, hkind, hid, takeMark_end hidle hm hend]
    rfl
  refine ⟨fun hd => ?_, fun e he => ⟨fun hd hreached hmode hinbox => ?_, fun hd hreached => ?_⟩⟩
  · exact ⟨_, hanswers (by simp [hd]) _ (takeEnd_stopping hd), idleEvent_idled hp rfl rfl rfl (.inl hd)⟩
  · refine ⟨_, hanswers (by simp [hd]) _ (takeEnd_starting hd), ?_⟩
    have hidled := idleEvent_idled (t := s.finalise .noStart 0) hp (by simp) (by simp) (by simp) (.inr hn)
    rw [finalise_unplayed he hreached hmode hinbox] at hidled ⊢
    exact hidled
  · intro final kind marked notes graded
    by_cases hpaused : s.deck.state = .paused
    · have hmarked : marked = s := if_pos hpaused
      have hfinal : final = now := if_pos hpaused
      obtain ⟨u, hidled, harchives⟩ := completed_idled (marked := marked) (d := s.deck.pausedMark m) hp hr hn
        (by rw [hmarked]) (by rw [hmarked]) (by rw [hmarked]) (by rw [hmarked]) he hreached rfl
      refine ⟨u, _, hanswers (by simp [hpaused]) _ ?_, hidled, harchives⟩
      rw [hmarked, hfinal]
      exact takeEnd_paused hpaused
    · have hmarked : marked = s.handed ⟨kind, final⟩ := if_neg hpaused
      have hfinal : final = s.deck.markFloor m := (if_neg hpaused).trans Deck.markFloor_eq.symm
      have hkind : kind = s.deck.markKind m := Deck.markKind_eq.symm
      have hplays : s.deck.state = .playing ∨ s.deck.state = .stalled := by
        obtain hd | hd | hd := hd
        exacts [.inl hd, .inr hd, absurd hd hpaused]
      obtain ⟨u, hidled, harchives⟩ := completed_idled (marked := marked) (d := s.deck.runMark m) hp hr hn
        (by rw [hmarked]; rfl) (by rw [hmarked]; rfl) (by rw [hmarked]; rfl) (by rw [hmarked]; rfl) he hreached rfl
      refine ⟨u, _, hanswers ?_ _ ?_, hidled, harchives⟩
      · obtain hd | hd := hplays <;> simp [hd]
      · rw [hmarked, hfinal, hkind]
        exact takeEnd_playing hplays hfloor hm

/-! ## HOLD and GO (R82, R84) -/

theorem exec_hold {l : PanelLine} (hs : s.Takes l) :
    exec (.hold l []) s = .next (s.holdEvent.1.replied l (requestReply 0x14#8 s.holdEvent.2)) :=
  exec_panel (k := .hold) rfl hs rfl

theorem exec_go {l : PanelLine} (hs : s.Takes l) :
    exec (.go l []) s = .next (s.goEvent.1.replied l (requestReply 0x15#8 s.goEvent.2)) :=
  exec_panel (k := .go) rfl hs rfl

/-- A HOLD taken: the deck pauses, and the directive with it (R69, R82). -/
theorem holdEvent_taken (hp : s.Posted) (h : s.deck.state = .playing ∨ s.deck.state = .stalled) :
    s.holdEvent = ((s.setDeck s.deck.holdNow).setPort (s.port.ordered .pause), .bare .ok) := by
  have hpost : (s.setDeck s.deck.holdNow).post = (s.setDeck s.deck.holdNow).setPort (s.port.ordered .pause) :=
    post_ordered hp rfl rfl rfl (by obtain h | h := h <;> simp [h]) (by simp [Deck.holdNow]) rfl rfl rfl rfl
      (by obtain h | h := h <;> simp [Deck.playOrder, h])
  rw [holdEvent, if_pos h, hpost]

/-- Play time directly after a GO is the floor it set (R75, R84). -/
theorem Deck.goNow_playTime {d : Deck} (hfloor : d.floor ≤ 3599999) (hmark : d.lastMark ≤ 3599999) :
    d.goNow.playTime = d.goFloor := by
  have hrange : d.lastMark ≤ d.goFloor ∧ d.goFloor ≤ 3599999 := by unfold goFloor; split <;> omega
  simp [playTime, goNow, disarm]
  omega

/-- A GO taken: play resumes at its floor, both followers are handed it, and the directive says to play (R69, R76, R84). -/
theorem goEvent_taken (hp : s.Posted) (h : s.deck.state = .paused) (hfloor : s.deck.floor ≤ 3599999)
    (hmark : s.deck.lastMark ≤ 3599999) : s.goEvent =
      (((s.setDeck s.deck.goNow).handed ⟨s.deck.goKind, s.deck.goFloor⟩).setPort (s.port.ordered .play), .bare .ok) := by
  have hpost : ((s.setDeck s.deck.goNow).handAdvance s.deck.goKind).post =
      ((s.setDeck s.deck.goNow).handAdvance s.deck.goKind).setPort (s.port.ordered .play) :=
    post_ordered hp rfl rfl rfl (by simp [h]) (by simp [Deck.goNow]) rfl rfl rfl rfl (by simp [Deck.playOrder, h])
  rw [goEvent, if_pos h, hpost, handAdvance_eq, setDeck_deck, Deck.goNow_playTime hfloor hmark]

/-- Settles O25: what an accepted HOLD and an accepted GO do, and their refusals. -/
theorem holdAndGo : Obligations.HoldAndGo := by
  intro l s hs hp d floor kind
  rw [exec_hold hs, exec_go hs]
  refine ⟨fun hd => ?_, fun hplaying hstalled => ?_, fun hd hfloor hmark => ?_, fun hd => ?_⟩
  · rw [holdEvent_taken hp hd]; rfl
  · rw [holdEvent, if_neg (not_or.2 ⟨hplaying, hstalled⟩)]; rfl
  · have hgoFloor : s.deck.goFloor = floor := by simp [Deck.goFloor, Deck.goRewinds, floor, d]
    have hgoKind : s.deck.goKind = kind := by
      simp [Deck.goKind, hgoFloor, Deck.goRewinds, Deck.riseKind, kind, d]
    rw [goEvent_taken hp hd hfloor hmark, hgoFloor, hgoKind]
    simp only [Deck.goNow, hgoFloor]
    rfl
  · rw [goEvent, if_neg hd]; rfl

end Sys2Proof.Machine
end

section
/-! # The millisecond tick and the stall (R76, R80, R123, R136, R191) -/

namespace Sys2Proof.Machine

open State

variable {s : State}

/-! ## What a tick does to the deck (R76, R80) -/

namespace Deck

variable {d : Deck}

/-- The stall timer is armed in PLAYING alone (section 4.1). -/
theorem Rule.stallTimer_eq_none (h : d.Rule) (hs : d.state ≠ .playing) : d.stallTimer = none := by
  have hrow := h.row
  unfold TableRow at hrow
  cases hd : d.state <;> rw [hd] at hrow
  case idle => rw [hrow]; rfl
  case playing => exact absurd hd hs
  case starting => obtain ⟨-, -, -, -, -, -, hnone, -, -⟩ := hrow; exact hnone
  case paused => obtain ⟨-, -, -, hnone, -, -⟩ := hrow; exact hnone
  case stalled => obtain ⟨-, -, -, hnone, -, -⟩ := hrow; exact hnone
  case stopping => obtain ⟨-, -, hnone, -, -⟩ := hrow; exact hnone

/-- The timers of a deck in PLAYING, its stall timer running out when E reaches 500 (R80). -/
theorem Rule.timers_of_playing (h : d.Rule) (hs : d.state = .playing) : d.elapsed < 500 ∧ d.startTimer = none ∧
    d.stallTimer = some (500 - d.elapsed) ∧ d.stallLimit = none ∧ d.stopTimer = none := by
  have hrow := h.row
  unfold TableRow at hrow
  rw [hs] at hrow
  obtain ⟨-, -, htimers⟩ := hrow
  exact htimers

theorem Rule.tick_not_playing (h : d.Rule) (hs : d.state ≠ .playing) : d.tick = { d with
    startTimer := d.startTimer.map (· - 1), stallLimit := d.stallLimit.map (· - 1)
    stopTimer := d.stopTimer.map (· - 1) } := by
  simp [tick, hs, countDown, h.stallTimer_eq_none hs]

theorem Rule.tick_playing (h : d.Rule) (hs : d.state = .playing) :
    d.tick = { d with elapsed := d.elapsed + 1, stallTimer := some (499 - d.elapsed) } := by
  obtain ⟨helapsed, hstart, hstall, hlimit, hstop⟩ := h.timers_of_playing hs
  have hleft : 500 - d.elapsed - 1 = 499 - d.elapsed := by omega
  simp [tick, hs, countDown, hstart, hstall, hlimit, hstop, hleft]
  omega

end Deck

/-! ## What a tick does to the controller -/

/-- The deck's part of a tick outside PLAYING: the armed timer counts (R76). -/
theorem tickDeck_not_playing (h : s.deck.Rule) (hs : s.deck.state ≠ .playing) : tickDeck s = s.setDeck { s.deck with
    startTimer := s.deck.startTimer.map (· - 1), stallLimit := s.deck.stallLimit.map (· - 1)
    stopTimer := s.deck.stopTimer.map (· - 1) } := by
  rw [← h.tick_not_playing hs]
  exact if_neg hs

theorem tickDeck_playing (h : s.deck.state = .playing) : tickDeck s =
    if s.deck.tick.stallDue then stallExpiry ((s.setDeck s.deck.tick).handed ⟨.step, s.deck.tick.playTime⟩)
    else (s.setDeck s.deck.tick).handed ⟨.step, s.deck.tick.playTime⟩ := if_pos h

/-- The deck's part of a tick in PLAYING that leaves E below 500: E counts, and a STEP is handed (R76). -/
theorem tickDeck_steps (h : s.deck.Rule) (hs : s.deck.state = .playing) (he : s.deck.elapsed < 499) : tickDeck s =
    (s.setDeck { s.deck with elapsed := s.deck.elapsed + 1, stallTimer := some (499 - s.deck.elapsed) }).handed
      ⟨.step, min (max s.deck.floor (s.deck.lastMark + (s.deck.elapsed + 1))) 3599999⟩ := by
  have hdue : s.deck.tick.stallDue = false := by simp [Deck.stallDue, h.tick_playing hs]; omega
  rw [tickDeck_playing hs, hdue, h.tick_playing hs, Deck.playTime, if_pos hs]
  rfl

/-- The deck's part of the tick that brings E to 500: a STEP is handed at the play time at which the deck stalls (R76,
R80). -/
theorem tickDeck_stalls (h : s.deck.Rule) (hs : s.deck.state = .playing) (he : s.deck.elapsed = 499) : tickDeck s =
    ((s.setDeck { s.deck with
      state := .stalled, floor := min (max s.deck.floor (s.deck.lastMark + (s.deck.elapsed + 1))) 3599999, elapsed := 500
      stallTimer := none, stallLimit := some 8000 }).handed
      ⟨.step, min (max s.deck.floor (s.deck.lastMark + (s.deck.elapsed + 1))) 3599999⟩).raise .stall := by
  obtain ⟨-, hstart, -, -, hstop⟩ := h.timers_of_playing hs
  have hdue : s.deck.tick.stallDue = true := by simp [Deck.stallDue, h.tick_playing hs, hs, he]
  have htime : s.deck.tick.playTime = min (max s.deck.floor (s.deck.lastMark + (s.deck.elapsed + 1))) 3599999 := by
    rw [h.tick_playing hs, Deck.playTime, if_pos hs]
  have hstall : s.deck.tick.stall = { s.deck with
      state := .stalled, floor := s.deck.tick.playTime, elapsed := 500, stallTimer := none, stallLimit := some 8000 } := by
    rw [Deck.stall, Deck.freeze, h.tick_playing hs]
    simp [Deck.disarm, hstart, hstop, he]
  rw [tickDeck_playing hs, hdue, ← htime, ← hstall]
  rfl

theorem exec_millisecondTick (hrun : s.running = true) : exec .millisecondTick s = .next (tick s) :=
  congrArg _ (if_pos hrun)

theorem exec_stallTimerExpiry (hrun : s.running = true) : exec .stallTimerExpiry s = .next
    (if s.deck.state = .playing ∧ s.deck.stallTimer = some 1 then tick s
      else if s.deck.stallDue then stallExpiry s else s) :=
  congrArg _ (live_running hrun _)

/-- The expiry of the stall timer is the tick that brings E to 500 (R80, log entry 6). -/
theorem exec_stallTimerExpiry_of_rule (hrun : s.running = true) (h : s.deck.Rule) : exec .stallTimerExpiry s = .next
    (if s.deck.state = .playing ∧ s.deck.elapsed = 499 then tick s else s) := by
  rw [exec_stallTimerExpiry hrun]
  by_cases hd : s.deck.state = .playing
  · obtain ⟨helapsed, -, hstall, -, -⟩ := h.timers_of_playing hd
    have hnotDue : s.deck.stallDue = false := by simp [Deck.stallDue, hstall]; omega
    have hone : s.deck.stallTimer = some 1 ↔ s.deck.elapsed = 499 := by rw [hstall, Option.some_inj]; omega
    simp only [hd, hone, hnotDue, true_and]
    rfl
  · have hnotDue : s.deck.stallDue = false := by simp [Deck.stallDue, hd]
    simp [hd, hnotDue]

/-- The part of a tick that is not the deck's: the front end and the bus timeout count (R123, R136, R191). -/
theorem tick_eq {front : FrontEnd} (hfront : s.front.tick = front) : tick s = tickDeck ((s.setFront front).setDesk
    (if s.desk.bus = .idle then s.desk else { s.desk with busTimer := s.desk.busTimer.map (· - 1) })) := by
  subst hfront
  unfold tick tickDesk
  rw [setFront_desk]
  split <;> rfl

/-- Settles O29: the front end and the bus count in any deck state, and then the deck, with E below 499 and at 499. -/
theorem tickCountsAndStalls : Obligations.TickCountsAndStalls := by
  intro s hrun h d front counted now
  have hfront : s.front.tick = front := by
    cases ha : s.front.activity <;> simp [FrontEnd.tick, FrontEnd.beginScan, front, ha]
  rw [exec_millisecondTick hrun, exec_stallTimerExpiry_of_rule hrun h, show tick s = tickDeck counted from tick_eq hfront]
  refine ⟨fun hd => ?_, fun hd he => ?_, fun hd he => ?_, fun hno => ?_⟩
  · exact congrArg _ (tickDeck_not_playing (s := counted) h hd)
  · exact congrArg _ (tickDeck_steps (s := counted) h hd he)
  · rw [if_pos ⟨hd, he⟩]
    have hstalls := tickDeck_stalls (s := counted) h hd he
    exact ⟨congrArg _ hstalls, congrArg _ hstalls⟩
  · rw [if_neg (not_and_or.2 hno)]

end Sys2Proof.Machine
end

section
/-! # What the deck asks of the followers (R76, R89, R95, R96, R115, R140, R142, R150 to R153, R158) -/

namespace Sys2Proof.Machine

open State

variable {s : State}

/-! ## The lyric sequencer (R96, R115) -/

theorem exec_lyricNewSong (hrun : s.running = true) : exec .lyricNewSong s = .next s.lyricNewSong :=
  congrArg _ (live_running hrun _)

theorem exec_lyricDropSong (hrun : s.running = true) : exec .lyricDropSong s = .next s.lyricDropSong :=
  congrArg _ (live_running hrun _)

/-- Settles O32: each row takes the waiting advances, and then does to the sequencer what R96 and R115 say. -/
theorem lyricNewSongAndDropSong : Obligations.LyricNewSongAndDropSong := by
  intro s hrun caught
  rw [exec_lyricNewSong hrun, exec_lyricDropSong hrun]
  exact ⟨rfl, rfl⟩

/-! ## A microphone's notes brought forward (R141 to R143, R147, R148) -/

/-- The next note of a part set: none between is of it, and it is, where there is one (R141). -/
theorem nextNote_spec (notes : List NoteRecord) (ps : PartSet) (i : Nat) : i ≤ nextNote notes ps i ∧
    (i ≤ notes.length → nextNote notes ps i ≤ notes.length) ∧
    (∀ m, notes[nextNote notes ps i]? = some m → ps.holds m.part = true) ∧
    (∀ j m, i ≤ j → j < nextNote notes ps i → notes[j]? = some m → ps.holds m.part = false) := by
  unfold nextNote
  refine ⟨by omega, fun h => ?_, fun m hm => ?_, fun j m hij hj hm => ?_⟩
  · have := List.findIdx_le_length (xs := notes.drop i) (p := fun n => ps.holds n.part)
    simp only [List.length_drop] at this
    omega
  · rw [← List.getElem?_drop] at hm
    obtain ⟨hlt, rfl⟩ := List.getElem?_eq_some_iff.1 hm
    exact List.findIdx_getElem (w := hlt)
  · obtain ⟨k, rfl⟩ := Nat.exists_eq_add_of_le hij
    rw [← List.getElem?_drop] at hm
    obtain ⟨hlt, rfl⟩ := List.getElem?_eq_some_iff.1 hm
    simpa using List.not_of_lt_findIdx (p := fun n : NoteRecord => ps.holds n.part) (xs := notes.drop i) (by omega : k < _)

namespace MicGrade

variable {g : MicGrade} {o : OpenNote} {notes : List NoteRecord} {ps : PartSet} {key : Int} {t : Nat}

theorem weightOf_eq (o : OpenNote) (length : Nat) : o.weightOf length = weighed o length := by
  unfold OpenNote.weightOf weighed
  split <;> omega

theorem judge_eq (o : OpenNote) (w : Nat) (g : MicGrade) : g.judge o w = g.judgedWith o w := by
  have hsung : (if o.samples < 5 then g.sung else g.sung + 1) = if 5 ≤ o.samples then g.sung + 1 else g.sung := by
    split <;> split <;> omega
  have honPitch : (if o.points < 70 then g.onPitch else g.onPitch + 1) =
      if 70 ≤ o.points then g.onPitch + 1 else g.onPitch := by
    split <;> split <;> omega
  unfold judge
  rw [hsung, honPitch]
  rfl

/-- How many closings and openings a microphone's notes can still take: at most two for each note from its cursor on, and one
for the open note (R142). -/
def notesLeft (notes : List NoteRecord) (g : MicGrade) : Nat :=
  2 * (notes.length - g.cursor) + if g.openNote.isSome then 1 else 0

/-- A note move closes the open note or opens the cursor note: where neither is due, none applies (R142). -/
theorem not_noteMove (hclose : ∀ o, g.openNote = some o → t < o.start + o.duration)
    (hopen : g.openNote = none → ∀ n, notes[g.cursor]? = some n → t < n.start) (x : MicGrade) :
    ¬NoteMove notes ps key t g x := by
  intro h
  cases h with
  | close o ho hend => exact absurd (hclose o ho) (by omega)
  | opening n next ho hn hstart => exact absurd (hopen ho n hn) (by omega)

/-- The cursor note opened is a note move: the cursor passes to the next note of the part set (R141, R143). -/
theorem noteMove_openCursor {n : NoteRecord} (ho : g.openNote = none) (hn : notes[g.cursor]? = some n)
    (hstart : n.start ≤ t) : NoteMove notes ps key t g (g.openCursor notes ps key n) := by
  obtain ⟨hlow, hhigh, hholds, hbetween⟩ := nextNote_spec notes ps (g.cursor + 1)
  have hlt : g.cursor < notes.length := (List.getElem?_eq_some_iff.1 hn).1
  exact .opening g n _ ho hn hstart hlow (hhigh hlt) hholds fun i m hi => hbetween i m hi

/-- Note moves are made until none applies, where there are as many tries as closings and openings left (R142). -/
theorem follow_spec (notes : List NoteRecord) (ps : PartSet) (key : Int) (t : Nat) : ∀ (tries : Nat) (g : MicGrade),
    g.notesLeft notes ≤ tries → Relation.ReflTransGen (NoteMove notes ps key t) g (follow notes ps key t tries g) ∧
      ∀ x, ¬NoteMove notes ps key t (follow notes ps key t tries g) x := by
  intro tries
  induction tries with
  | zero =>
    intro g hleft
    have hnone : g.openNote = none := by cases ho : g.openNote <;> simp [notesLeft, ho] at hleft ⊢
    have hend : notes[g.cursor]? = none := List.getElem?_eq_none (by simp [notesLeft, hnone] at hleft; omega)
    exact ⟨.refl, not_noteMove (g := g) (by simp [hnone]) (by simp [hend])⟩
  | succ tries ih =>
    intro g hleft
    unfold follow
    cases ho : g.openNote with
    | some o =>
      by_cases hend : o.start + o.duration ≤ t
      · have hmove : NoteMove notes ps key t g (g.judge o o.weight) := by
          rw [judge_eq, OpenNote.weight, weightOf_eq]
          exact .close g o ho hend
        have hless : (g.judge o o.weight).notesLeft notes ≤ tries := by
          simp [notesLeft, judge, ho] at hleft ⊢
          omega
        obtain ⟨hmoves, hstuck⟩ := ih _ hless
        simp only [hend, if_true]
        exact ⟨.head hmove hmoves, hstuck⟩
      · simp only [hend, if_false]
        refine ⟨.refl, not_noteMove (fun o' ho' => ?_) (by simp [ho])⟩
        obtain rfl : o' = o := Option.some.inj (ho'.symm.trans ho)
        omega
    | none =>
      cases hn : notes[g.cursor]? with
      | none => exact ⟨.refl, not_noteMove (by simp [ho]) (by simp [hn])⟩
      | some n =>
        by_cases hstart : n.start ≤ t
        · have hmove := noteMove_openCursor (ps := ps) (key := key) ho hn hstart
          have hless : (g.openCursor notes ps key n).notesLeft notes ≤ tries := by
            have hlt : g.cursor < notes.length := (List.getElem?_eq_some_iff.1 hn).1
            have hnext := (nextNote_spec notes ps (g.cursor + 1)).1
            simp [notesLeft, openCursor, ho] at hleft ⊢
            omega
          obtain ⟨hmoves, hstuck⟩ := ih _ hless
          simp only [hstart, if_true]
          exact ⟨.head hmove hmoves, hstuck⟩
        · simp only [hstart, if_false]
          refine ⟨.refl, not_noteMove (by simp [ho]) fun _ n' hn' => ?_⟩
          obtain rfl : n' = n := Option.some.inj (hn'.symm.trans hn)
          omega

/-- A microphone's notes brought forward to a play time (R142). -/
theorem bringTo_followed (notes : List NoteRecord) (key : Int) (t : Nat) (g : MicGrade) :
    Followed notes key t g (g.bringTo notes key t) := by
  unfold bringTo
  refine ⟨fun hparts => by simp only [hparts], fun ps hparts => ?_⟩
  have htries : g.notesLeft notes ≤ 2 * notes.length + 1 := by unfold notesLeft; split <;> omega
  simp only [hparts]
  exact follow_spec notes ps key t _ g htries

theorem finish_eq (t : Nat) (g : MicGrade) : g.finish t = g.finishedAt t := by
  unfold finish finishedAt
  cases ho : g.openNote with
  | none => simp only [ho]; rfl
  | some o =>
    simp only [weightOf_eq, judge_eq]
    split <;> rfl

/-! ## What a microphone brings to the report (R150, R152) -/

theorem score_eq (g : MicGrade) :
    g.score = if g.parts = none ∨ g.weight = 0 then none else some (10 * g.total / g.weight) := by
  unfold score
  cases g.parts <;> simp [Nat.pos_iff_ne_zero, ite_not]

theorem counts_eq (g : MicGrade) : g.counts = if g.parts = none then none else some ⟨g.judged, g.sung, g.onPitch⟩ := by
  unfold counts
  cases g.parts <;> simp

theorem begin_eq (notes : List NoteRecord) (parts : Option PartSet) :
    MicGrade.begin notes parts = micBegins notes parts := by
  cases parts <;> simp [MicGrade.begin, micBegins, unscored, LiveIndicator.off, nextNote]

end MicGrade

/-! ## The grader's requests (R89, R140, R151 to R153, R158) -/

theorem exec_graderNewSong (hrun : s.running = true) : exec .graderNewSong s = .next s.graderNewSong :=
  congrArg _ (live_running hrun _)

theorem exec_graderFinalScores (hrun : s.running = true) :
    exec .graderFinalScores s = .next (s.graderFinalScores s.deck.playTime) :=
  congrArg _ (live_running hrun _)

theorem exec_graderSongEnded (hrun : s.running = true) : exec .graderSongEnded s = .next s.graderSongEnded :=
  congrArg _ (live_running hrun _)

theorem exec_graderDiscard (hrun : s.running = true) : exec .graderDiscard s = .next s.graderDiscard :=
  congrArg _ (live_running hrun _)

namespace Grader

variable {g : Grader}

theorem take_mode (notes : List NoteRecord) (key : Int) (a : Advance) (g : Grader) : (g.take notes key a).mode = g.mode := by
  unfold take
  split
  · cases a.kind <;> rfl
  · rfl

theorem takeAll_mode (notes : List NoteRecord) (key : Int) (g : Grader) : (g.takeAll notes key).mode = g.mode := by
  have hfold : ∀ (l : List Advance) (r : Grader), (l.foldl (fun r a => r.take notes key a) r).mode = r.mode := by
    intro l
    induction l with
    | nil => exact fun _ => rfl
    | cons a l ih => exact fun r => (ih _).trans (take_mode notes key a r)
  exact hfold g.inbox _

/-- The entry score is the mean of two scores, and else the one there is: a microphone that is not scored has none (R150,
R153). -/
theorem entryScoreOf_scores (a b : MicGrade) :
    (∀ x y, a.score = some x → b.score = some y →
      entryScoreOf (a.parts, b.parts) a.score b.score = some ((x + y) / 2)) ∧
    (∀ x, a.score = some x → b.score = none → entryScoreOf (a.parts, b.parts) a.score b.score = some x) ∧
    (a.score = none → entryScoreOf (a.parts, b.parts) a.score b.score = b.score) := by
  have hscored : ∀ (g : MicGrade) {x}, g.score = some x → ∃ ps, g.parts = some ps := fun g x h => by
    cases hparts : g.parts with
    | none => simp [MicGrade.score, hparts] at h
    | some ps => exact ⟨ps, rfl⟩
  refine ⟨fun x y hx hy => ?_, fun x hx hy => ?_, fun hx => ?_⟩
  · obtain ⟨psA, hpsA⟩ := hscored a hx
    obtain ⟨psB, hpsB⟩ := hscored b hy
    simp [entryScoreOf, hpsA, hpsB, hx, hy]
  · obtain ⟨psA, hpsA⟩ := hscored a hx
    cases hpsB : b.parts <;> simp [entryScoreOf, hpsA, hx, hy]
  · cases hy : b.score with
    | none => cases hpsA : a.parts <;> cases hpsB : b.parts <;> simp [entryScoreOf, hx]
    | some y =>
      obtain ⟨psB, hpsB⟩ := hscored b hy
      cases hpsA : a.parts <;> simp [entryScoreOf, hpsB, hx]

/-- The final scores taken in FOLLOWING, and the report they give (R151 to R153). -/
theorem finalScores_eq {notes : List NoteRecord} {key : Int} {t : Nat} (hmode : g.mode = .following) :
    g.finalScores notes key t =
      let a := (g.micA.bringTo notes key t).finishedAt t
      let b := (g.micB.bringTo notes key t).finishedAt t
      { g with
        mode := .final, micA := a, micB := b
        report := some ⟨a.score, b.score, entryScoreOf (a.parts, b.parts) a.score b.score, a.counts, b.counts,
          g.invalid⟩ } := by
  rw [finalScores, if_pos hmode]
  simp only [settleNotes, reportNow, MicGrade.finish_eq]

/-- A new song's grader, whatever it held but the advances that wait (R140). -/
theorem newSong_eq (notes : List NoteRecord) (mode : MicMode) (hinbox : g.inbox = []) : g.newSong notes mode =
    { mode := .following, invalid := false, report := none, inbox := []
      micA := micBegins notes (if mode = .soloB then none else some .part1)
      micB := micBegins notes (if mode = .soloA then none else if mode = .soloB then some .part1 else some .part2) } := by
  cases mode <;> simp [newSong, MicMode.partsA, MicMode.partsB, MicGrade.begin_eq, hinbox]

theorem discard_eq (hinbox : g.inbox = []) : g.discard = Grader.atReset := by
  rw [discard, hinbox]
  rfl

end Grader

/-- Settles O38, one request after the other, each once the waiting advances have been taken. -/
theorem graderSongRequests : Obligations.GraderSongRequests := by
  intro s hrun notes caught score counts
  have hinbox : caught.inbox = [] := grader_takeAll_inbox ..
  have hmode : s.grader.mode = .following → caught.mode = .following := (Grader.takeAll_mode ..).trans
  rw [exec_graderNewSong hrun, exec_graderFinalScores hrun, exec_graderSongEnded hrun, exec_graderDiscard hrun]
  refine ⟨fun e he => ?_, fun hf => ?_, fun hf => ?_, ?_⟩
  · have hbegun : s.graderNewSong = s.setGrader (caught.newSong notes e.micMode) := by rw [graderNewSong, he]; rfl
    rw [hbegun, Grader.newSong_eq notes e.micMode hinbox]
  · refine ⟨_, _, MicGrade.bringTo_followed notes s.deck.key s.deck.playTime caught.micA,
      MicGrade.bringTo_followed notes s.deck.key s.deck.playTime caught.micB, ?_⟩
    intro doneA doneB
    have hfinal : s.graderFinalScores s.deck.playTime = s.setGrader { caught with
        mode := .final, micA := doneA, micB := doneB
        report := some ⟨doneA.score, doneB.score, entryScoreOf (doneA.parts, doneB.parts) doneA.score doneB.score,
          doneA.counts, doneB.counts, caught.invalid⟩ } :=
      congrArg s.setGrader (Grader.finalScores_eq (hmode hf))
    have hscore : ∀ g, score g = g.score := fun g => g.score_eq.symm
    have hcounts : ∀ g, counts g = g.counts := fun g => g.counts_eq.symm
    obtain ⟨hboth, honly, hnone⟩ := Grader.entryScoreOf_scores doneA doneB
    rw [hfinal, hscore, hscore, hcounts, hcounts]
    split
    · next x y hA hB => rw [hboth x y hA hB]
    · next x hA hB => rw [honly x hA hB]
    · next hA => rw [hnone hA]
  · have hended : s.graderSongEnded = s.setGrader caught.songEnded := rfl
    rw [hended, Grader.songEnded, if_pos (hmode hf)]
  · have hdiscarded : s.graderDiscard = s.setGrader caught.discard := rfl
    rw [hdiscarded, Grader.discard_eq hinbox]
    rfl

end Sys2Proof.Machine
end

section
/-! # The lyric window and the countdown search (R97 to R102, R105, R106, R109, R110, R112) -/

namespace Sys2Proof.Machine

open State

variable {s : State}

/-! ## The countdown search (R109, R110) -/

namespace Bank

theorem endBefore_eq (b : Bank) (i : Nat) :
    b.endBefore i = if i = 0 then 0 else (b.lyrics[i - 1]?.map (·.endTime)).getD 0 := by
  unfold endBefore lineEndAt
  cases b.lyrics[i - 1]? <;> rfl

theorem step_eq (b : Bank) : b.step = (b.header.map (·.step)).getD 0 := by
  unfold step
  cases b.header <;> rfl

theorem songLength_of_header {b : Bank} {h : BankHeader} (hh : b.header = some h) : b.songLength = h.length := by
  simp [songLength, hh]

/-- Line `i`, the record `l`, is one the countdown search stops at: it has the gap before it and has not started (R110). -/
def Awaits (b : Bank) (gap t i : Nat) (l : LyricLine) : Prop := b.qualifies gap i l = true ∧ t < l.start

theorem awaits_iff (b : Bank) (gap t i : Nat) (l : LyricLine) :
    b.Awaits gap t i l ↔ gap ≤ l.start - b.endBefore i ∧ t < l.start := by
  simp [Awaits, qualifies]

/-- The search's test for a line to pass over is that it is not awaited. -/
theorem passes_iff (b : Bank) (gap t i : Nat) (l : LyricLine) :
    (!b.qualifies gap i l || decide (l.start ≤ t)) = true ↔ ¬b.Awaits gap t i l := by
  cases hq : b.qualifies gap i l <;> simp [Awaits, hq]

end Bank

namespace Sequencer

variable {b : Bank} {t : Nat} {q : Sequencer}

/-- The search stops at the first line awaited, where there are as many tries as lines left: its countdown begins if the
interval has, and is waited for if not (R110). -/
theorem searchCountdown_spec (b : Bank) (t : Nat) : ∀ (tries : Nat) (q : Sequencer), b.lyrics.length - q.search ≤ tries →
    ∃ j, q.search ≤ j ∧
      (∀ i, q.search ≤ i → i < j → ∃ l, b.lyrics[i]? = some l ∧ ¬b.Awaits q.settings.gap t i l) ∧
      (b.lyrics[j]? = none → q.searchCountdown b t tries = { q with search := j }) ∧
      (∀ l, b.lyrics[j]? = some l → b.Awaits q.settings.gap t j l ∧ q.searchCountdown b t tries =
        if b.countdownBegins j l ≤ t then { q with countdown := some ⟨j, b.stepOf l⟩, search := j + 1 }
        else { q with search := j }) := by
  intro tries
  induction tries with
  | zero =>
    intro q hleft
    have hend : b.lyrics[q.search]? = none := List.getElem?_eq_none (by omega)
    exact ⟨q.search, le_rfl, by omega, fun _ => rfl, by simp [hend]⟩
  | succ tries ih =>
    intro q hleft
    unfold searchCountdown
    cases hl : b.lyrics[q.search]? with
    | none => exact ⟨q.search, le_rfl, by omega, fun _ => rfl, by simp [hl]⟩
    | some l =>
      by_cases hpass : b.Awaits q.settings.gap t q.search l
      · refine ⟨q.search, le_rfl, by omega, by simp [hl], fun l' hl' => ?_⟩
        obtain rfl : l' = l := Option.some.inj (hl'.symm.trans hl)
        refine ⟨hpass, ?_⟩
        simp only [Bank.passes_iff, hpass, not_true, if_false]
      · obtain ⟨j, hlow, hpassed, hnone, hfound⟩ := ih { q with search := q.search + 1 } (by simp only; omega)
        simp only [Bank.passes_iff, hpass, not_false_iff, if_true]
        refine ⟨j, by simp only at hlow; omega, fun i hi hij => ?_, hnone, hfound⟩
        obtain rfl | hlt := Nat.eq_or_lt_of_le hi
        · exact ⟨l, hl, hpass⟩
        · exact hpassed i hlt hij

theorem beginCountdown_searched (b : Bank) (t : Nat) (q : Sequencer) : Searched b t q (q.beginCountdown b t) := by
  unfold beginCountdown
  refine ⟨fun hsome => if_pos (Option.isSome_iff_ne_none.2 hsome), fun hnone => ?_⟩
  obtain ⟨j, hlow, hpassed, hend, hfound⟩ := searchCountdown_spec b t b.lyrics.length q (by omega)
  simp only [Bank.awaits_iff, Bank.countdownBegins, Bank.stepOf, Bank.endBefore_eq, Bank.step_eq] at hpassed hfound
  rw [if_neg (by simp [hnone])]
  exact ⟨j, hlow, hpassed, hend, hfound⟩

/-! ## A STEP (R97 to R102) -/

theorem endScroll_eq (t : Nat) (q : Sequencer) :
    q.endScroll t = { q with scroll := q.scroll.filter fun c => decide (t < c.start + q.settings.scroll) } := by
  unfold endScroll
  cases hc : q.scroll with
  | none =>
    simp only [Option.filter_none]
    rw [← hc]
  | some c =>
    by_cases hover : c.start + q.settings.scroll ≤ t
    · simp [hover, Option.filter, Nat.not_lt.2 hover]
    · simp [hover, Option.filter, Nat.lt_of_not_le hover, ← hc]

theorem endCountdown_eq (b : Bank) (t : Nat) (q : Sequencer) : q.endCountdown b t =
    { q with countdown := q.countdown.filter fun c => decide (∃ l, b.lyrics[c.line]? = some l ∧ t < l.start) } := by
  unfold endCountdown
  cases hc : q.countdown with
  | none =>
    simp only [Option.filter_none]
    rw [← hc]
  | some c =>
    cases hl : b.lyrics[c.line]? with
    | none => simp [Option.filter, hl]
    | some l =>
      by_cases hover : l.start ≤ t
      · simp [Option.filter, hl, hover]
      · simp [Option.filter, hl, hover, Nat.lt_of_not_le hover, ← hc]

theorem countForced_forced (q : Sequencer) :
    q.countForced.forced = if q.forced < 65535 then q.forced + 1 else 65535 := by
  unfold countForced
  split <;> simp only <;> omega

theorem isDue_iff (q : Sequencer) (t : Nat) (l : LyricLine) : q.isDue t l = true ↔ l.start ≤ t + q.settings.lead := by
  simp [isDue]

theorem mayExit_iff (q : Sequencer) (b : Bank) (t first : Nat) (l : LyricLine) : q.mayExit b t first l = true ↔
    l.start ≤ t + q.settings.lead ∧ q.scroll = none ∧ b.lineEndAt first + q.settings.hold ≤ t := by
  simp [mayExit, isDue, and_assoc]

/-- The cursor line stays where it is while it is not due to a free row, and a full window's oldest line makes no way for it:
then no window move applies (R97). -/
theorem not_windowMove
    (hfree : ∀ l, b.lyrics[q.cursor]? = some l → q.window.length < q.settings.rows → t + q.settings.lead < l.start)
    (hfull : ∀ l first rest, b.lyrics[q.cursor]? = some l → q.window = first :: rest → q.settings.rows ≤ q.window.length →
      ¬q.mayExit b t first l ∧ t < l.start) (x : Sequencer) : ¬WindowMove b t q x := by
  intro h
  cases h with
  | entry l hl hroom hdue => exact absurd (hfree l hl hroom) (by omega)
  | normalExit l first rest hl hw hrows hdue hscroll hheld =>
    exact (hfull l first rest hl hw hrows).1 ((mayExit_iff ..).2 ⟨hdue, hscroll, hheld⟩)
  | forcedExit l first rest hl hw hrows hstart _ => exact absurd (hfull l first rest hl hw hrows).2 (by omega)

/-- An exit of the oldest line for a line that starts, where it may not go by a normal exit, is a forced one (R102). -/
theorem windowMove_forcedExit {l : LyricLine} {first : Nat} {rest : List Nat} (hl : b.lyrics[q.cursor]? = some l)
    (hw : q.window = first :: rest) (hrows : q.settings.rows ≤ q.window.length) (hstart : l.start ≤ t)
    (hnot : ¬q.mayExit b t first l) : WindowMove b t q (q.exitRow t first rest).countForced := by
  have hwhy : q.scroll ≠ none ∨ t < b.lineEndAt first + q.settings.hold := by
    by_contra hcon
    obtain ⟨hscroll, hheld⟩ := not_or.1 hcon
    exact hnot ((mayExit_iff ..).2 ⟨by omega, not_not.1 hscroll, by omega⟩)
  have hmoved : (q.exitRow t first rest).countForced = { q with
      window := rest ++ [q.cursor], cursor := q.cursor + 1, scroll := some ⟨first, t⟩
      forced := if q.forced < 65535 then q.forced + 1 else 65535 } := by
    rw [← countForced_forced]
    rfl
  rw [hmoved]
  exact .forcedExit q l first rest hl hw hrows hstart hwhy

/-- Window moves are made until none applies, where there are as many tries as lines left: each brings one in (R97). -/
theorem moveWindow_spec (b : Bank) (t : Nat) : ∀ (tries : Nat) (q : Sequencer), b.lyrics.length - q.cursor ≤ tries →
    Relation.ReflTransGen (WindowMove b t) q (q.moveWindow b t tries) ∧
      ∀ x, ¬WindowMove b t (q.moveWindow b t tries) x := by
  intro tries
  induction tries with
  | zero =>
    intro q hleft
    have hend : b.lyrics[q.cursor]? = none := List.getElem?_eq_none (by omega)
    exact ⟨.refl, not_windowMove (q := q) (by simp [hend]) (by simp [hend])⟩
  | succ tries ih =>
    intro q hleft
    have hgoOn : ∀ r, WindowMove b t q r → r.cursor = q.cursor + 1 →
        Relation.ReflTransGen (WindowMove b t) q (r.moveWindow b t tries) ∧
          ∀ x, ¬WindowMove b t (r.moveWindow b t tries) x := fun r hmove hcursor => by
      obtain ⟨hmoves, hstuck⟩ := ih r (by omega)
      exact ⟨.head hmove hmoves, hstuck⟩
    unfold moveWindow
    cases hl : b.lyrics[q.cursor]? with
    | none => exact ⟨.refl, not_windowMove (by simp [hl]) (by simp [hl])⟩
    | some l =>
      have hline : ∀ l', b.lyrics[q.cursor]? = some l' → l' = l := fun l' hl' => Option.some.inj (hl'.symm.trans hl)
      by_cases hroom : q.window.length < q.settings.rows
      · by_cases hdue : q.isDue t l
        · simp only [hroom, hdue, if_true]
          exact hgoOn _ (.entry q l hl hroom ((isDue_iff ..).1 hdue)) rfl
        · simp only [hroom, hdue, if_true, Bool.false_eq_true, if_false]
          refine ⟨.refl, not_windowMove (fun l' hl' _ => ?_) fun _ _ _ _ _ hrows => absurd hroom (by omega)⟩
          rw [hline l' hl']
          exact Nat.lt_of_not_le fun hle => hdue ((isDue_iff ..).2 hle)
      · have hrows := Nat.le_of_not_lt hroom
        simp only [hroom, if_false]
        cases hw : q.window with
        | nil => exact ⟨.refl, not_windowMove (fun _ _ hlt => absurd hlt hroom) (by simp [hw])⟩
        | cons first rest =>
          by_cases hexit : q.mayExit b t first l
          · obtain ⟨hdue, hscroll, hheld⟩ := (mayExit_iff ..).1 hexit
            simp only [hexit, if_true]
            exact hgoOn _ (.normalExit q l first rest hl hw hrows hdue hscroll hheld) rfl
          by_cases hstart : l.start ≤ t
          · simp only [hexit, hstart, if_true, Bool.false_eq_true, if_false]
            exact hgoOn _ (windowMove_forcedExit hl hw hrows hstart hexit) rfl
          · simp only [hexit, hstart, Bool.false_eq_true, if_false]
            refine ⟨.refl, not_windowMove (fun _ _ hlt => absurd hlt hroom) fun l' first' rest' hl' hw' _ => ?_⟩
            obtain ⟨rfl, -⟩ := List.cons.inj (hw.symm.trans hw')
            rw [hline l' hl']
            exact ⟨hexit, by omega⟩

theorem step_stepped (b : Bank) (t : Nat) (q : Sequencer) : Stepped b t q (q.step b t) := by
  obtain ⟨hmoves, hstuck⟩ := moveWindow_spec b t b.lyrics.length ((q.endScroll t).endCountdown b t) (by omega)
  refine ⟨_, ?_, hstuck, beginCountdown_searched b t _⟩
  rw [endCountdown_eq, endScroll_eq] at hmoves ⊢
  exact hmoves

/-! ## A rebuild (R106, R112) -/

/-- Lines enter from the cursor on until the window is full or the cursor line is not due, where there are as many tries as
lines left (R106). -/
theorem fillWindow_spec (b : Bank) (t : Nat) : ∀ (tries : Nat) (q : Sequencer), b.lyrics.length - q.cursor ≤ tries →
    q.window.length ≤ q.settings.rows → ∃ n,
      q.fillWindow b t tries =
        { q with window := q.window ++ List.range' q.cursor n, cursor := q.cursor + n } ∧
      q.window.length + n ≤ q.settings.rows ∧
      (∀ i < n, ∃ l, b.lyrics[q.cursor + i]? = some l ∧ l.start ≤ t + q.settings.lead) ∧
      (q.window.length + n = q.settings.rows ∨
        ∀ l, b.lyrics[q.cursor + n]? = some l → t + q.settings.lead < l.start) := by
  have hstop : ∀ q : Sequencer, q = { q with window := q.window ++ List.range' q.cursor 0, cursor := q.cursor + 0 } := by
    simp
  intro tries
  induction tries with
  | zero =>
    intro q hleft hfits
    have hend : b.lyrics[q.cursor]? = none := List.getElem?_eq_none (by omega)
    exact ⟨0, hstop q, hfits, by omega, .inr (by simp [hend])⟩
  | succ tries ih =>
    intro q hleft hfits
    unfold fillWindow
    cases hl : b.lyrics[q.cursor]? with
    | none => exact ⟨0, hstop q, hfits, by omega, .inr (by simp [hl])⟩
    | some l =>
      by_cases henters : q.window.length < q.settings.rows ∧ l.start ≤ t + q.settings.lead
      · obtain ⟨n, heq, hroom, hin, hout⟩ := ih q.enterRow (by simp only [enterRow]; omega)
          (by simp only [enterRow, List.length_append, List.length_singleton]; omega)
        simp only [enterRow, List.length_append, List.length_singleton, Nat.add_assoc, Nat.add_comm 1 n]
          at heq hroom hin hout
        simp only [isDue, henters, decide_true, Bool.and_self, if_true]
        refine ⟨n + 1, ?_, hroom, fun i hi => ?_, hout⟩
        · rw [enterRow, heq, List.append_assoc, List.singleton_append, ← List.range'_succ]
        · cases i with
          | zero => exact ⟨l, hl, henters.2⟩
          | succ i =>
            rw [Nat.add_comm i 1]
            exact hin i (by omega)
      · have htest : (decide (q.window.length < q.settings.rows) && q.isDue t l) = false := by
          rw [isDue, ← Bool.decide_and]
          exact decide_eq_false henters
        simp only [htest, Bool.false_eq_true, if_false]
        refine ⟨0, hstop q, hfits, by omega, ?_⟩
        simp only [Nat.add_zero, hl, Option.some.injEq, forall_eq']
        omega

end Sequencer

/-! ## The rows that take an advance -/

theorem exec_lyricStep_of_step {t : Nat} {rest : List Advance} (hrun : s.running = true)
    (hinbox : s.lyric.inbox = ⟨.step, t⟩ :: rest) :
    exec .lyricStep s = .next (s.setLyric ({ s.lyric with inbox := rest }.step s.store.playing t)) := by
  simp only [exec, execLyricStep, live_running hrun, hinbox, if_true]
  rfl

theorem exec_lyricStep_otherwise (hrun : s.running = true) (hinbox : ∀ t rest, s.lyric.inbox ≠ ⟨.step, t⟩ :: rest) :
    exec .lyricStep s = .next s := by
  simp only [exec, execLyricStep, live_running hrun]
  split
  · rfl
  · next a rest ha =>
    rw [if_neg fun hkind => hinbox a.time rest (by rw [ha, ← hkind])]

theorem exec_lyricRebuild_of_rebuild {kind : AdvanceKind} {t : Nat} {rest : List Advance} (hrun : s.running = true)
    (hinbox : s.lyric.inbox = ⟨kind, t⟩ :: rest) (hkind : kind ≠ .step) :
    exec .lyricRebuild s = .next (s.setLyric ({ s.lyric with inbox := rest }.rebuild s.store.playing t)) := by
  simp only [exec, execLyricRebuild, live_running hrun, hinbox, hkind, if_false]
  cases kind with
  | step => exact absurd rfl hkind
  | jump | rewind => rfl

theorem exec_lyricRebuild_otherwise (hrun : s.running = true)
    (hinbox : s.lyric.inbox = [] ∨ ∃ t rest, s.lyric.inbox = ⟨.step, t⟩ :: rest) : exec .lyricRebuild s = .next s := by
  simp only [exec, execLyricRebuild, live_running hrun]
  obtain hnil | ⟨t, rest, hstep⟩ := hinbox
  · simp only [hnil]
  · simp only [hstep, if_true]

/-- Settles O30: the row is a STEP of the sequencer, and a STEP is what R97 says. -/
theorem lyricStepFollowsPlayTime : Obligations.LyricStepFollowsPlayTime := fun _ hrun =>
  ⟨fun t _ hinbox => ⟨_, exec_lyricStep_of_step hrun hinbox, Sequencer.step_stepped _ t _⟩,
    exec_lyricStep_otherwise hrun⟩

/-- Settles O31: the window is filled from the first line still held, and the countdown search is made behind it. -/
theorem lyricRebuildMakesWindowAfresh : Obligations.LyricRebuildMakesWindowAfresh := by
  intro s hrun
  refine ⟨fun kind t rest hinbox hkind => ?_, exec_lyricRebuild_otherwise hrun⟩
  intro b c first
  obtain ⟨n, heq, hroom, hin, hout⟩ := Sequencer.fillWindow_spec b t b.lyrics.length
    { s.lyric with inbox := rest, window := [], scroll := none, countdown := none, cursor := first } (by omega)
    (Nat.zero_le _)
  simp only [List.length_nil, Nat.zero_add, List.nil_append] at heq hroom hin hout
  refine ⟨n, _, exec_lyricRebuild_of_rebuild hrun hinbox hkind, hroom, hin, hout, ?_⟩
  rw [Sequencer.rebuild]
  simp only
  rw [heq]
  exact Sequencer.beginCountdown_searched b t _

end Sys2Proof.Machine
end

section
/-! # Line state, the wipe, and the scene (R103, R107, R108, R111, R116 to R118, R127, R156, R183, R184) -/

namespace Sys2Proof.Machine

open State

/-! ## The wipe as a sum over syllables (R108) -/

namespace Syllable

/-- The syllables of a line are in order: each ends before a later one begins (R58). -/
def Before (y z : Syllable) : Prop := y.offset + y.duration ≤ z.offset

/-- The sixteenths of a glyph a syllable has been wiped over, `t` ms from its line's start (R108). -/
def wiped (t : Nat) (y : Syllable) : Nat := 16 * y.glyphs * min (t - y.offset) y.duration / y.duration

variable {t u : Nat} {y : Syllable}

theorem wiped_of_le (h : t ≤ y.offset) : y.wiped t = 0 := by
  simp [wiped, Nat.sub_eq_zero_of_le h]

theorem wiped_of_ended (hd : 1 ≤ y.duration) (h : y.offset + y.duration ≤ t) : y.wiped t = 16 * y.glyphs := by
  rw [wiped, Nat.min_eq_right (by omega), Nat.mul_div_cancel _ hd]

theorem wiped_of_singing (h : t < y.offset + y.duration) :
    y.wiped t = 16 * y.glyphs * (t - y.offset) / y.duration := by
  rw [wiped, Nat.min_eq_left (by omega)]

theorem wiped_mono (h : t ≤ u) (y : Syllable) : y.wiped t ≤ y.wiped u :=
  Nat.div_le_div_right (Nat.mul_le_mul_left _ (by omega))

/-- Syllables that have all ended are wiped whole. -/
theorem sum_wiped_of_ended : ∀ {ys : List Syllable}, (∀ y ∈ ys, 1 ≤ y.duration ∧ y.offset + y.duration ≤ t) →
    (ys.map (·.wiped t)).sum = 16 * glyphTotal ys := by
  intro ys
  induction ys with
  | nil => exact fun _ => rfl
  | cons y ys ih =>
    intro h
    obtain ⟨⟨hd, hended⟩, hrest⟩ := List.forall_mem_cons.1 h
    simp only [List.map_cons, List.sum_cons, ih hrest, wiped_of_ended hd hended, glyphTotal, Nat.mul_add]

/-- Syllables none of which has begun are not wiped. -/
theorem sum_wiped_of_le {ys : List Syllable} (h : ∀ y ∈ ys, t ≤ y.offset) : (ys.map (·.wiped t)).sum = 0 :=
  List.sum_eq_zero fun n hn => by
    obtain ⟨y, hy, rfl⟩ := List.mem_map.1 hn
    exact wiped_of_le (h y hy)

theorem pairwise_before {ys : List Syllable}
    (h : ∀ k y z, ys[k]? = some y → ys[k + 1]? = some z → y.offset + y.duration ≤ z.offset) : ys.Pairwise Before := by
  have htrans : IsTrans Syllable Before := ⟨fun _ _ _ hxy hyz => by unfold Before at *; omega⟩
  refine List.isChain_iff_pairwise.1 (List.isChain_iff_getElem.2 fun k hk => ?_)
  exact h k _ _ (List.getElem?_eq_getElem _) (List.getElem?_eq_getElem hk)

end Syllable

namespace LyricLine

open Syllable

variable {l : LyricLine} {t u : Nat} {x y last : Syllable} {ys : List Syllable}

/-- Of syllables in order, those before the last one begun are wiped whole and those behind it are not: the wipe is the sum
of what each has been wiped over (R108). -/
theorem wipeOver_eq_sum (t : Nat) : ∀ (ys : List Syllable) (before : Nat), ys.Pairwise Before →
    (∀ y ∈ ys, 1 ≤ y.duration) → wipeOver t ys before = 16 * before + (ys.map (·.wiped t)).sum := by
  intro ys
  induction ys with
  | nil => exact fun _ _ _ => rfl
  | cons y rest ih =>
    intro before hordered hlong
    obtain ⟨hfirst, hrest⟩ := List.pairwise_cons.1 hordered
    obtain ⟨hd, hlongs⟩ := List.forall_mem_cons.1 hlong
    have hlast : (∀ z ∈ rest, t ≤ z.offset) →
        (if t < y.offset + y.duration then 16 * before + 16 * y.glyphs * (t - y.offset) / y.duration
          else 16 * (before + y.glyphs)) = 16 * before + ((y :: rest).map (·.wiped t)).sum := fun hbehind => by
      rw [List.map_cons, List.sum_cons, sum_wiped_of_le hbehind]
      split
      · next h => rw [wiped_of_singing h, Nat.add_zero]
      · next h => rw [wiped_of_ended hd (Nat.le_of_not_lt h), Nat.add_zero, Nat.mul_add]
    unfold wipeOver
    split
    · next hbegins =>
      rw [sum_wiped_of_le (List.forall_mem_cons.2 ⟨hbegins.le, fun z hz => ?_⟩), Nat.add_zero]
      have hyz : y.offset + y.duration ≤ z.offset := hfirst z hz
      omega
    cases rest with
    | nil => exact hlast (by simp)
    | cons next more =>
      have hyn : y.offset + y.duration ≤ next.offset := hfirst next (by simp)
      simp only
      split
      · next hbegun =>
        rw [ih _ hrest hlongs, List.map_cons (a := y), List.sum_cons, wiped_of_ended hd (by omega), Nat.mul_add,
          Nat.add_assoc]
      · next hwaits =>
        refine hlast (List.forall_mem_cons.2 ⟨by omega, fun z hz => ?_⟩)
        have hnz : next.offset + next.duration ≤ z.offset := (List.pairwise_cons.1 hrest).1 z hz
        omega

theorem firstBegins_of_head? (h : l.syllables.head? = some x) : l.firstBegins = l.start + x.offset := by
  obtain ⟨ys, hys⟩ := List.head?_eq_some_iff.1 h
  simp [firstBegins, hys]

/-- The first of ordered syllables begins no later than any of them. -/
theorem head_offset_le (h : ys.head? = some x) (hordered : ys.Pairwise Before) (hy : y ∈ ys) : x.offset ≤ y.offset := by
  obtain ⟨rest, rfl⟩ := List.head?_eq_some_iff.1 h
  obtain rfl | hrest := List.mem_cons.1 hy
  · exact le_rfl
  · exact (Nat.le_add_right _ _).trans ((List.pairwise_cons.1 hordered).1 y hrest)

/-- The last of ordered syllables ends no earlier than any of them. -/
theorem ends_le_last (h : ys.getLast? = some last) (hordered : ys.Pairwise Before) (hy : y ∈ ys) :
    y.offset + y.duration ≤ last.offset + last.duration := by
  obtain ⟨front, rfl⟩ := List.getLast?_eq_some_iff.1 h
  obtain hfront | hlast := List.mem_append.1 hy
  · exact ((List.pairwise_append.1 hordered).2.2 y hfront last (by simp)).trans (Nat.le_add_right _ _)
  · rw [List.mem_singleton.1 hlast]

/-- A stored line: its syllables are in order and none is empty, and it ends with the last of them (R56, R58). -/
structure Ordered (l : LyricLine) (x last : Syllable) : Prop where
  first : l.syllables.head? = some x
  final : l.syllables.getLast? = some last
  ordered : l.syllables.Pairwise Before
  long : ∀ y ∈ l.syllables, 1 ≤ y.duration
  ends : l.endTime = l.start + last.offset + last.duration

namespace Ordered

variable (h : l.Ordered x last)
include h

theorem ended (ht : l.endTime ≤ t) (hy : y ∈ l.syllables) : y.offset + y.duration ≤ t - l.start := by
  have hle := ends_le_last h.final h.ordered hy
  have hends := h.ends
  omega

theorem firstBegins_le_endTime : l.start + x.offset ≤ l.endTime := by
  have hle := ends_le_last h.final h.ordered (List.mem_of_mem_head? h.first)
  have hends := h.ends
  omega

/-- At every play time the wipe is the sum over the syllables: before the first begins and once the line has ended too. -/
theorem wipeAt_eq_sum (t : Nat) : l.wipeAt t = (l.syllables.map (·.wiped (t - l.start))).sum := by
  unfold wipeAt
  rw [firstBegins_of_head? h.first]
  split
  · next hbegins =>
    refine (sum_wiped_of_le fun y hy => ?_).symm
    have hle := head_offset_le h.first h.ordered hy
    omega
  split
  · next hends => exact (sum_wiped_of_ended fun y hy => ⟨h.long y hy, h.ended hends hy⟩).symm
  · rw [wipeOver_eq_sum _ _ _ h.ordered h.long, Nat.mul_zero, Nat.zero_add]

/-- The wipe from the last syllable begun, the `k`-th: those before it are wiped whole, those behind it not at all (R108). -/
theorem wipeAt_of_last_begun {k : Nat} (hy : l.syllables[k]? = some y) (hbegun : l.start + y.offset ≤ t)
    (hnext : ∀ z, l.syllables[k + 1]? = some z → t < l.start + z.offset) :
    l.wipeAt t = if t < l.start + y.offset + y.duration then
        16 * glyphTotal (l.syllables.take k) + 16 * y.glyphs * (t - l.start - y.offset) / y.duration
      else 16 * glyphTotal (l.syllables.take (k + 1)) := by
  obtain ⟨hk, rfl⟩ := List.getElem?_eq_some_iff.1 hy
  have hsplit : l.syllables = l.syllables.take k ++ l.syllables[k] :: l.syllables.drop (k + 1) := by simp
  have hordered := h.ordered
  rw [hsplit] at hordered
  obtain ⟨-, hback, hacross⟩ := List.pairwise_append.1 hordered
  have hbefore : ∀ z ∈ l.syllables.take k, 1 ≤ z.duration ∧ z.offset + z.duration ≤ t - l.start := fun z hz => by
    have hzy : z.offset + z.duration ≤ l.syllables[k].offset := hacross z hz _ List.mem_cons_self
    exact ⟨h.long z (List.mem_of_mem_take hz), by omega⟩
  have hbehind : ∀ z ∈ l.syllables.drop (k + 1), t - l.start ≤ z.offset := fun z hz => by
    cases hhead : l.syllables[k + 1]? with
    | none => simp [List.drop_eq_nil_of_le (List.getElem?_eq_none_iff.1 hhead)] at hz
    | some w =>
      have hwz := head_offset_le (by rw [List.head?_drop, hhead]) (List.pairwise_cons.1 hback).2 hz
      have hw := hnext w hhead
      omega
  have hsum : l.wipeAt t = 16 * glyphTotal (l.syllables.take k) + l.syllables[k].wiped (t - l.start) := by
    rw [h.wipeAt_eq_sum]
    conv_lhs => rw [hsplit]
    rw [List.map_append, List.sum_append, List.map_cons, List.sum_cons, sum_wiped_of_ended hbefore,
      sum_wiped_of_le hbehind, Nat.add_zero]
  rw [hsum]
  split
  · rw [wiped_of_singing (by omega)]
  · rw [wiped_of_ended (h.long _ (List.getElem_mem hk)) (by omega), List.take_add_one, List.getElem?_eq_getElem hk]
    simp only [glyphTotal, Option.toList_some, List.map_append, List.sum_append, List.map_singleton, List.sum_singleton,
      Nat.mul_add]

theorem wipeAt_mono (htu : t ≤ u) : l.wipeAt t ≤ l.wipeAt u := by
  rw [h.wipeAt_eq_sum, h.wipeAt_eq_sum]
  exact List.sum_le_sum fun y _ => wiped_mono (Nat.sub_le_sub_right htu _) y

end Ordered

end LyricLine

/-- Settles O33: the wipe is a sum over the syllables, each wiped from its own beginning to its own end. -/
theorem lineStateAndWipe : Obligations.LineStateAndWipe := by
  intro l x last t hfirst hfinal hpairs hlong hends glyphs n
  have h : l.Ordered x last := ⟨hfirst, hfinal, Syllable.pairwise_before hpairs, hlong, hends⟩
  have hbegins := LyricLine.firstBegins_of_head? hfirst
  have hspan := h.firstBegins_le_endTime
  refine ⟨fun ht => ?_, fun ht => ?_, fun hbegun ht => ⟨?_, fun k y hy => h.wipeAt_of_last_begun hy⟩,
    fun u => h.wipeAt_mono⟩
  · exact ⟨by rw [LyricLine.stateAt, if_pos (by omega)], by rw [LyricLine.wipeAt, if_pos (by omega)]⟩
  · have hwhole : glyphs n = glyphTotal l.syllables := by simp only [glyphs, n, List.take_length, glyphTotal]
    rw [LyricLine.stateAt, LyricLine.wipeAt, hbegins, if_neg (by omega), if_neg (by omega), if_neg (by omega), if_pos ht,
      hwhole]
    exact ⟨rfl, rfl⟩
  · rw [LyricLine.stateAt, if_neg (by omega), if_pos ht]

/-! ## The scene (R103, R111, R116 to R118, R127, R156, R183, R184) -/

namespace Sequencer

/-- The six bytes of a slot for what the track has at index `i`: absent, or the line with its state and wipe (section 11.4). -/
def slotOf (t i : Nat) : Option LyricLine → List Byte
  | none => List.replicate 6 0#8
  | some l => [1#8, byteOf i, l.part.code, (l.stateAt t).code, byteOf (l.wipeAt t / 256), byteOf (l.wipeAt t)]

theorem lineSlot_eq (b : Bank) (t i : Nat) : lineSlot b t i = slotOf t i b.lyrics[i]? := by
  unfold lineSlot
  cases b.lyrics[i]? <;> rfl

theorem rowSlots_eq (b : Bank) (t : Nat) (q : Sequencer) : q.rowSlots b t = (List.range 4).flatMap fun r =>
    if r < q.settings.rows then slotOf t ((q.window[r]?).getD 0) (q.window[r]?.bind (b.lyrics[·]?))
    else List.replicate 6 0#8 := by
  unfold rowSlots
  congr 1
  funext r
  cases q.window[r]? with
  | none => rfl
  | some i =>
    simp only [lineSlot_eq]
    rfl

theorem leavingSlot_eq (b : Bank) (t : Nat) (q : Sequencer) :
    q.leavingSlot b t = slotOf t ((q.scroll.map (·.line)).getD 0) (q.scroll.bind (b.lyrics[·.line]?)) := by
  unfold leavingSlot
  cases q.scroll with
  | none => rfl
  | some c => exact lineSlot_eq b t c.line

theorem countdownValue_eq (b : Bank) (t : Nat) (q : Sequencer) : q.countdownValue b t =
    (q.countdown.bind fun c => b.lyrics[c.line]?.map fun l => min 4 ((l.start - t + c.step - 1) / c.step)).getD 0 := by
  unfold countdownValue
  cases q.countdown with
  | none => rfl
  | some c => cases hl : b.lyrics[c.line]? <;> simp [hl]

end Sequencer

theorem MicGrade.sceneBytes_eq (g : MicGrade) : g.sceneBytes =
    [g.live.grade.code, g.live.lean.code, byteOf ((g.openNote.map (·.target)).getD 0)] ++
      field2 (if g.parts = none ∨ g.weight = 0 then 65535 else 10 * g.total / g.weight) := by
  have hscore : g.score.getD 65535 = if g.parts = none ∨ g.weight = 0 then 65535 else 10 * g.total / g.weight := by
    rw [score_eq]
    split <;> rfl
  unfold sceneBytes
  rw [optional2, hscore]
  cases g.openNote <;> rfl

theorem sceneBlank_iff (s : State) :
    sceneBlank s = true ↔ s.desk.standby = true ∨ s.deck.state = .idle ∨ s.deck.reached = false := by
  simp [sceneBlank, or_assoc]

theorem sceneLyric_eq (s : State) :
    sceneLyric s = s.setLyric ((s.lyric.takeAll s.store.playing).step s.store.playing s.deck.playTime) := rfl

theorem exec_readScene {s : State} {check : Byte} (hs : s.AtCheck) (hsum : SumsToZero 0x09#8 [] check) :
    exec (.readScene [] check) s =
      .next ((readSceneCommand s).1.answered (readSceneCommand s).2.code (readSceneCommand s).2.payload) :=
  exec_media (k := .readScene) rfl hs hsum rfl (Nat.zero_le _)

/-- Settles O42: the sequencer is stepped to play time behind its waiting advances, and the bytes are read from there. -/
theorem sceneIsBlankOrSong : Obligations.SceneIsBlankOrSong := by
  intro check s hs hsum blank T b two three slot mic
  rw [exec_readScene hs hsum]
  refine ⟨fun hblank => ?_, fun h hsong hheader => ⟨_, Sequencer.step_stepped b T _, ?_⟩⟩
  · rw [readSceneCommand, if_pos ((sceneBlank_iff s).2 hblank)]
  · have hslot : ∀ line i, slot line i = Sequencer.slotOf T i line := fun line i => by cases line <;> rfl
    have hmic : ∀ (m : MicState) (g : MicGrade), mic m g = yesNo m.gateOpen :: g.sceneBytes := fun m g => by
      rw [MicGrade.sceneBytes_eq]
      rfl
    have hlength : s.store.playing.songLength = h.length := Bank.songLength_of_header hheader
    rw [readSceneCommand, if_neg (mt (sceneBlank_iff s).1 hsong), sceneLyric_eq]
    simp only [songSceneBytes, setLyric_lyric, setLyric_deck, setLyric_store, setLyric_front, setLyric_grader,
      Sequencer.rowSlots_eq, Sequencer.leavingSlot_eq, Sequencer.countdownValue_eq, hlength,
      hslot, hmic, List.append_assoc, List.cons_append, List.nil_append]
    rfl

end Sys2Proof.Machine
end

section
/-! # The microphone front end: gates, edges and intervals, and standby (R123 to R126, R128 to R136, R199 to R201) -/

namespace Sys2Proof.Machine

open State

variable {s : State}

/-! ## The gates (R124, R125) -/

namespace MicState

variable {m : MicState} {openAt closeBelow v : Nat}

/-- A closed gate opens at the third value in a row at or above the open threshold (R124). -/
theorem takeValue_of_closed (hg : m.gateOpen = false) : m.takeValue openAt closeBelow v =
    if v < openAt then { m with openRun := 0 }
    else if m.openRun < 2 then { m with openRun := m.openRun + 1 }
    else { m with gateOpen := true, openRun := 0, closeRun := 0 } := by
  have hvalue : v ≥ openAt ↔ ¬v < openAt := by omega
  have hrun : m.openRun + 1 ≥ 3 ↔ ¬m.openRun < 2 := by omega
  simp only [takeValue, hg, Bool.false_eq_true, if_false, hvalue, hrun, ite_not]

/-- An open gate closes at the fifth value in a row below the close threshold, and its microphone is then as at reset
(R125). -/
theorem takeValue_of_open (hg : m.gateOpen = true) : m.takeValue openAt closeBelow v =
    if closeBelow ≤ v then { m with closeRun := 0 }
    else if m.closeRun < 4 then { m with closeRun := m.closeRun + 1 }
    else ⟨false, 0, 0, false, 0, none⟩ := by
  have hvalue : v < closeBelow ↔ ¬closeBelow ≤ v := by omega
  have hrun : m.closeRun + 1 ≥ 5 ↔ ¬m.closeRun < 4 := by omega
  simp only [takeValue, hg, if_true, hvalue, hrun, ite_not]
  rfl

end MicState

/-! ## Conversions and the settle timer (R123, R126, R136) -/

theorem exec_conversionCompletion (hrun : s.running = true) (value : BitVec 10) :
    exec (.conversionCompletion value) s = .next (s.setFront
      (s.front.complete s.desk.settings.openThreshold s.desk.settings.closeThreshold value.toNat)) :=
  congrArg _ (live_running hrun _)

theorem exec_settleTimerExpiry (hrun : s.running = true) : exec .settleTimerExpiry s = .next
    (if s.front.activity = .settling ∧ s.front.settleTimer = some 0 then s.setFront s.front.settled else s) :=
  congrArg _ (live_running hrun _)

/-- Settles O34: each gate by whether it is open, and each row by the condition it waits for. -/
theorem gatesAndScans : Obligations.GatesAndScans := by
  intro value s hrun v openAt closeBelow Gate
  have hgate : ∀ m : MicState, Gate m (m.takeValue openAt closeBelow v) := by
    intro m
    refine ⟨fun hg hv => ?_, fun hg hv hn => ?_, fun hg hv hn => ?_, fun hg hv => ?_, fun hg hv hn => ?_,
      fun hg hv hn => ?_⟩
    · rw [MicState.takeValue_of_closed hg, if_pos hv]
    · rw [MicState.takeValue_of_closed hg, if_neg hv.not_gt, if_pos hn]
    · rw [MicState.takeValue_of_closed hg, if_neg hv.not_gt, if_neg hn.not_gt]
    · rw [MicState.takeValue_of_open hg, if_pos hv]
    · rw [MicState.takeValue_of_open hg, if_neg hv.not_ge, if_pos hn]
    · rw [MicState.takeValue_of_open hg, if_neg hv.not_ge, if_neg hn.not_gt]
  rw [exec_conversionCompletion hrun, exec_settleTimerExpiry hrun]
  refine ⟨fun hc => ⟨_, hgate s.front.micA, ?_⟩, fun hc => ⟨_, hgate s.front.micB, ?_⟩, fun hc => ?_,
    fun ha ht => ?_, fun hno => ?_⟩
  · rw [FrontEnd.complete, hc]
  · rw [FrontEnd.complete, hc]
  · rw [FrontEnd.complete, hc]
    rfl
  · rw [if_pos ⟨ha, ht⟩]
    rfl
  · rw [if_neg (not_and_or.2 hno)]

/-! ## Edges and intervals (R128 to R131) -/

namespace MicState

variable {m : MicState} {counts stamp p q : Nat} {previous : Option Nat}

/-- A valid interval agrees with the one before where they differ by no more than a sixteenth of that one (R131). -/
theorem agrees_iff : agrees p q = true ↔ (p - q) * 16 ≤ q ∧ (q - p) * 16 ≤ q := by
  simp only [agrees, decide_eq_true_eq]
  omega

/-- A valid interval is a sample exactly where it agrees with the one before (R130, R131). -/
theorem sampleOf_valid (hlow : 800 ≤ p) (hhigh : p ≤ 16000) :
    ((∃ q, previous = some q ∧ (p - q) * 16 ≤ q ∧ (q - p) * 16 ≤ q) → sampleOf previous p = some p) ∧
    ((¬∃ q, previous = some q ∧ (p - q) * 16 ≤ q ∧ (q - p) * 16 ≤ q) → sampleOf previous p = none) := by
  cases previous <;> simp [sampleOf, intervalValid, hlow, hhigh, agrees_iff]

theorem sampleOf_invalid (h : p < 800 ∨ 16000 < p) : sampleOf previous p = none := by
  have hvalid : intervalValid p = false := by simp [intervalValid]; omega
  cases previous <;> simp [sampleOf, hvalid]

/-- The first edge is the reference for the next (R129). -/
theorem takeEdge_of_no_edge (h : m.lastEdge = false) :
    m.takeEdge counts = ({ m with lastEdge := true, counter := 0 }, none) := by
  simp [takeEdge, runCounter, handleEdge, h]

/-- An edge with a reference is handled at the stamp to which the capture counter has run (R128). -/
theorem takeEdge_of_edge (h : m.lastEdge = true) (hstamp : min (m.counter + counts) 65535 = stamp) :
    m.takeEdge counts =
      if stamp < 400 then ({ m with counter := stamp }, none)
      else if m.gateOpen then
        ({ m with counter := 0, previous := if intervalValid stamp then some stamp else none },
          sampleOf m.previous stamp)
      else ({ m with counter := 0 }, none) := by
  simp [takeEdge, runCounter, handleEdge, h, hstamp]

/-- An edge with a reference, behind the guard and at an open gate, whose interval is not valid (R130). -/
theorem takeEdge_of_invalid (h : m.lastEdge = true) (hstamp : min (m.counter + counts) 65535 = stamp)
    (hguard : 400 ≤ stamp) (hgate : m.gateOpen = true) (hinterval : stamp < 800 ∨ 16000 < stamp) :
    m.takeEdge counts = ({ m with counter := 0, previous := none }, none) := by
  have hvalid : ¬intervalValid stamp = true := by simp [intervalValid]; omega
  rw [takeEdge_of_edge h hstamp, if_neg hguard.not_gt, if_pos hgate, if_neg hvalid, sampleOf_invalid hinterval]

/-- An edge with a reference, at an open gate, whose interval is valid (R130, R131). -/
theorem takeEdge_of_valid (h : m.lastEdge = true) (hstamp : min (m.counter + counts) 65535 = stamp)
    (hgate : m.gateOpen = true) (hlow : 800 ≤ stamp) (hhigh : stamp ≤ 16000) :
    m.takeEdge counts = ({ m with counter := 0, previous := some stamp }, sampleOf m.previous stamp) := by
  have hvalid : intervalValid stamp = true := by simp [intervalValid, hlow, hhigh]
  rw [takeEdge_of_edge h hstamp, if_neg (by omega), if_pos hgate, if_pos hvalid]

end MicState

/-! ## Samples handed on (R133, R134) -/

/-- A SOLO mode hands on the samples of its own microphone, DUET those of both (R134). -/
theorem scores_iff (mode : MicMode) (m : Mic) :
    scores mode m = true ↔ (m = .a ∧ mode ≠ .soloB) ∨ (m = .b ∧ mode ≠ .soloA) := by
  cases mode <;> cases m <;> decide

/-- The grader gets a microphone's samples: the deck is PLAYING, and the current entry's mic mode scores the microphone
(R133, R134). -/
def State.HandsOn (s : State) (m : Mic) : Prop :=
  s.deck.state = .playing ∧ ∃ e, s.deck.current = some e ∧ ((m = .a ∧ e.micMode ≠ .soloB) ∨ (m = .b ∧ e.micMode ≠ .soloA))

theorem routeSample_of_handsOn {m : Mic} (h : s.HandsOn m) (p : Nat) :
    s.routeSample m p = s.setGrader (s.grader.takeSample m p) := by
  obtain ⟨hd, e, he, hmode⟩ := h
  simp only [routeSample, he]
  exact if_pos ⟨hd, (scores_iff _ _).2 hmode⟩

theorem routeSample_of_not_handsOn {m : Mic} (h : ¬s.HandsOn m) (p : Nat) : s.routeSample m p = s := by
  cases he : s.deck.current with
  | none => simp only [routeSample, he]
  | some e =>
    simp only [routeSample, he]
    exact if_neg fun ⟨hd, hmode⟩ => h ⟨hd, e, he, (scores_iff _ _).1 hmode⟩

/-! ## The row of a rising edge (R128 to R134) -/

section

variable {m : Mic} {counts : Nat} {v : MicState}

/-- An edge outside activity ON is ignored (R129). -/
theorem exec_zeroCrossEdge_ignored (hrun : s.running = true) (ha : s.front.activity ≠ .on) :
    exec (.zeroCrossEdge m counts) s = .next s :=
  congrArg _ ((live_running hrun _).trans (if_neg ha))

/-- An edge that gives no sample changes its microphone alone (R129, R130). -/
theorem exec_zeroCrossEdge_no_sample (hrun : s.running = true) (ha : s.front.activity = .on)
    (hedge : (s.front.mic m).takeEdge counts = (v, none)) :
    exec (.zeroCrossEdge m counts) s = .next (s.setFront (s.front.setMic m v)) := by
  have htake : takeEdge m counts s = s.setFront (s.front.setMic m v) := by simp only [takeEdge, hedge]
  exact congrArg _ ((live_running hrun _).trans ((if_pos ha).trans htake))

/-- An edge that gives a sample has it routed (R131, R133, R134). -/
theorem exec_zeroCrossEdge_sample {p : Nat} (hrun : s.running = true) (ha : s.front.activity = .on)
    (hedge : (s.front.mic m).takeEdge counts = (v, some p)) :
    exec (.zeroCrossEdge m counts) s = .next ((s.setFront (s.front.setMic m v)).routeSample m p) := by
  have htake : takeEdge m counts s = (s.setFront (s.front.setMic m v)).routeSample m p := by simp only [takeEdge, hedge]
  exact congrArg _ ((live_running hrun _).trans ((if_pos ha).trans htake))

end

/-- Settles O35: the edge by its reference, the guard, the gate and its interval, and the sample by whether the deck hands
it on. -/
theorem edgesAndIntervals : Obligations.EdgesAndIntervals := by
  intro m counts s hrun u stamp after Gives
  refine ⟨fun ha => exec_zeroCrossEdge_ignored hrun ha, fun ha hl => ?_, fun ha hl hguard => ?_,
    fun ha hl hguard hgate => ?_, fun ha hl hguard hgate hinterval => ?_, fun ha hl hgate hlow hhigh => ?_⟩
  · exact exec_zeroCrossEdge_no_sample hrun ha (MicState.takeEdge_of_no_edge hl)
  · exact exec_zeroCrossEdge_no_sample hrun ha ((MicState.takeEdge_of_edge hl rfl).trans (if_pos hguard))
  · exact exec_zeroCrossEdge_no_sample hrun ha ((MicState.takeEdge_of_edge hl rfl).trans
      ((if_neg hguard.not_gt).trans (if_neg (by simp [hgate]))))
  · exact exec_zeroCrossEdge_no_sample hrun ha (MicState.takeEdge_of_invalid hl rfl hguard hgate hinterval)
  · intro stamped accepted handedOn
    have hedge := MicState.takeEdge_of_valid hl rfl hgate hlow hhigh
    obtain ⟨hsome, hnone⟩ := MicState.sampleOf_valid (previous := u.previous) hlow hhigh
    have hdiscard : ¬handedOn → stamped.routeSample m stamp = stamped := fun h =>
      routeSample_of_not_handsOn (s := stamped) h stamp
    refine ⟨fun ⟨haccepted, hon⟩ => ?_, fun hno => ?_⟩
    · rw [hsome haccepted] at hedge
      exact (exec_zeroCrossEdge_sample hrun ha hedge).trans
        (congrArg _ (routeSample_of_handsOn (s := stamped) hon stamp))
    · by_cases haccepted : accepted
      · rw [hsome haccepted] at hedge
        exact (exec_zeroCrossEdge_sample hrun ha hedge).trans
          (congrArg _ (hdiscard fun hon => hno ⟨haccepted, hon⟩))
      · rw [hnone haccepted] at hedge
        exact exec_zeroCrossEdge_no_sample hrun ha hedge

/-! ## STANDBY, WAKE and DESK RESET (R135, R136, R199 to R201) -/

theorem exec_standby (hs : s.AtWrite) : exec (.standby []) s =
    .next (s.standbyEvent.1.recorded s.standbyEvent.2.code 0x56#8 s.standbyEvent.2.payload) :=
  exec_desk (k := .standby) rfl hs rfl (by simp)

theorem exec_wake (hs : s.AtWrite) : exec (.wake []) s =
    .next ((if s.desk.standby then s.leaveStandby else s).recorded .ok 0x57#8 []) :=
  exec_desk (k := .wake) rfl hs rfl (by simp)

/-- DESK RESET ends the transaction and enters reset, which empties the reply record (R188, R199). -/
theorem exec_deskReset (hs : s.AtWrite) : exec (.deskReset []) s = .next
    ((s.setResetUnit s.resetUnit.deskReset).setDesk { s.desk with bus := .idle, busTimer := none, reply := none }) := by
  obtain ⟨hrun, hwriting⟩ := hs
  have htake : takeWrite DeskKind.deskReset.code [] s = replyWith DeskKind.deskReset.code
      (deskResetCommand s.endTransaction) := by
    rw [takeWrite, if_neg (not_not.2 hwriting), deskCheck_fits (k := .deskReset) rfl]
    rfl
  exact congrArg _ ((live_running hrun _).trans htake)

/-- Settles O49: STANDBY by the two conditions it looks at, WAKE by whether the controller is in standby. -/
theorem standbyWakeAndDeskReset : Obligations.StandbyWakeAndDeskReset := by
  intro s hs off woken
  rw [exec_standby hs, exec_wake hs, exec_deskReset hs]
  refine ⟨fun hstandby => ?_, fun hstandby hd => ?_, fun hstandby hd => ?_, fun hstandby => ?_, fun hstandby hp => ?_,
    rfl⟩
  · rw [standbyEvent, if_pos hstandby]
    rfl
  · rw [standbyEvent, if_neg (by simp [hstandby]), if_pos hd]
    rfl
  · rw [standbyEvent, if_neg (by simp [hstandby]), if_neg (not_not.2 hd)]
    rfl
  · rw [if_neg (by simp [hstandby])]
  · exact ⟨s.leaveStandby, by rw [if_pos hstandby], woken_reexamined hp⟩

end Sys2Proof.Machine
end

section
/-! # The pitch grader: the period table, advances and samples (R138, R142 to R148, R155) -/

namespace Sys2Proof.Machine

open State

variable {s : State}

/-! ## The period table (R138) -/

/-- A period `v` is the ideal period of note `n` rounded: 2v − 1 and 2v + 1 enclose twice 1,000,000 / f(n), each side to the
twelfth power, which clears the root in f(n) (R138). -/
def RoundsIdeal (n v : Nat) : Prop :=
  (2 * v - 1) ^ 12 * 440 ^ 12 * 2 ^ n ≤ (2 * 1000000) ^ 12 * 2 ^ 69 ∧
  (2 * 1000000) ^ 12 * 2 ^ 69 < (2 * v + 1) ^ 12 * 440 ^ 12 * 2 ^ n

/-- The entries in their order, the first of them for note 24. -/
theorem periodTable_roundsIdeal :
    ∀ i (h : i < periodTable.length), RoundsIdeal (firstNote + i) periodTable[i] := by
  unfold RoundsIdeal
  decide

/-- Settles O36: note `n` has the entry n − 24 of the 85. -/
theorem periodTableIsRounded : Obligations.PeriodTableIsRounded := by
  intro n hlow hhigh
  obtain ⟨i, rfl⟩ := Nat.exists_eq_add_of_le hlow
  have hi : i < periodTable.length := show i < 85 by omega
  have hperiod : periodOf (24 + i) = periodTable[i] := by
    rw [periodOf, firstNote, Nat.add_sub_cancel_left, List.getD_eq_getElem _ _ hi]
  rw [hperiod]
  exact periodTable_roundsIdeal i hi

/-! ## The rows that take an advance (R142, R144) -/

theorem MicGrade.rewind_of_none {g : MicGrade} (ho : g.openNote = none) : g.rewind = g := by
  simp only [MicGrade.rewind, ho]

theorem MicGrade.rewind_of_some {g : MicGrade} {o : OpenNote} (ho : g.openNote = some o) :
    g.rewind = g.judgedWith o (weighed o o.duration) := by
  simp only [MicGrade.rewind, ho, judge_eq, OpenNote.weight, weightOf_eq]

namespace Grader

variable {g : Grader} {notes : List NoteRecord} {key : Int} {kind : AdvanceKind} {t : Nat}

theorem take_of_not_following (h : g.mode ≠ .following) (a : Advance) : g.take notes key a = g := if_neg h

/-- A STEP and a JUMP bring both microphones' notes forward (R142). -/
theorem take_of_step (h : g.mode = .following) (hkind : kind ≠ .rewind) : g.take notes key ⟨kind, t⟩ =
    { g with micA := g.micA.bringTo notes key t, micB := g.micB.bringTo notes key t } := by
  rw [take, if_pos h]
  cases kind with
  | rewind => exact absurd rfl hkind
  | step | jump => rfl

/-- A REWIND sets the invalid flag and closes the open notes (R144, R155). -/
theorem take_of_rewind (h : g.mode = .following) : g.take notes key ⟨.rewind, t⟩ =
    { g with invalid := true, micA := g.micA.rewind, micB := g.micB.rewind } := if_pos h

end Grader

section

variable {kind : AdvanceKind} {t : Nat} {rest : List Advance} {taken : Grader}

theorem exec_graderStep_of_step (hrun : s.running = true) (hinbox : s.grader.inbox = ⟨kind, t⟩ :: rest)
    (hkind : kind ≠ .rewind)
    (htake : { s.grader with inbox := rest }.take s.store.playing.notes s.deck.key ⟨kind, t⟩ = taken) :
    exec .graderStep s = .next (s.setGrader taken) := by
  simp only [exec, execGraderStep, live_running hrun, hinbox, hkind, if_false, htake]

theorem exec_graderStep_otherwise (hrun : s.running = true)
    (hinbox : s.grader.inbox = [] ∨ ∃ t rest, s.grader.inbox = ⟨.rewind, t⟩ :: rest) : exec .graderStep s = .next s := by
  simp only [exec, execGraderStep, live_running hrun]
  obtain hnil | ⟨t, rest, hrewind⟩ := hinbox
  · simp only [hnil]
  · simp only [hrewind, if_true]

theorem exec_graderRewind_of_rewind (hrun : s.running = true) (hinbox : s.grader.inbox = ⟨.rewind, t⟩ :: rest)
    (htake : { s.grader with inbox := rest }.take s.store.playing.notes s.deck.key ⟨.rewind, t⟩ = taken) :
    exec .graderRewind s = .next (s.setGrader taken) := by
  simp only [exec, execGraderRewind, live_running hrun, hinbox, if_true, htake]

theorem exec_graderRewind_otherwise (hrun : s.running = true)
    (hinbox : s.grader.inbox = [] ∨ ∃ kind t rest, s.grader.inbox = ⟨kind, t⟩ :: rest ∧ kind ≠ .rewind) :
    exec .graderRewind s = .next s := by
  simp only [exec, execGraderRewind, live_running hrun]
  obtain hnil | ⟨kind, t, rest, hother, hkind⟩ := hinbox
  · simp only [hnil]
  · simp only [hother, hkind, if_false]

end

/-- Settles O37: each row by the kind of the oldest advance and by the mode in which it is taken. -/
theorem graderTakesAdvances : Obligations.GraderTakesAdvances := by
  intro s hrun g rewound
  have hrewound : ∀ u : MicGrade, u.rewind = rewound u := fun u => by
    cases ho : u.openNote with
    | none => simp only [rewound, ho, MicGrade.rewind_of_none]
    | some o => simp only [rewound, ho, MicGrade.rewind_of_some ho]
  refine ⟨fun kind t rest hinbox hkind => ?_, fun t rest hinbox => ?_, exec_graderStep_otherwise hrun,
    exec_graderRewind_otherwise hrun⟩
  · exact ⟨fun hmode => ⟨_, _, exec_graderStep_of_step hrun hinbox hkind (Grader.take_of_step hmode hkind),
        MicGrade.bringTo_followed _ _ t g.micA, MicGrade.bringTo_followed _ _ t g.micB⟩,
      fun hmode => exec_graderStep_of_step hrun hinbox hkind
        (Grader.take_of_not_following (g := { g with inbox := rest }) hmode _)⟩
  · refine ⟨fun hmode => ?_, fun hmode =>
      exec_graderRewind_of_rewind hrun hinbox (Grader.take_of_not_following (g := { g with inbox := rest }) hmode _)⟩
    rw [← hrewound, ← hrewound]
    exact exec_graderRewind_of_rewind hrun hinbox (Grader.take_of_rewind hmode)

/-! ## The fold (R145) -/

/-- The first pass doubles while below 2896 / 4096 of the target, where it has doublings enough to get there. -/
theorem foldUp_spec (target : Nat) : ∀ (tries p : Nat), 2896 * target ≤ 4096 * (p * 2 ^ tries) →
    ∃ j, foldUp target tries p = p * 2 ^ j ∧ (∀ i < j, 4096 * (p * 2 ^ i) < 2896 * target) ∧
      2896 * target ≤ 4096 * (p * 2 ^ j) := by
  intro tries
  induction tries with
  | zero => exact fun p h => ⟨0, by simp [foldUp], by simp, h⟩
  | succ tries ih =>
    intro p h
    have hshift : ∀ i, p * 2 ^ (i + 1) = 2 * p * 2 ^ i := fun i => by ring
    by_cases hlow : 4096 * p < 2896 * target
    · obtain ⟨j, hfold, hbelow, hreached⟩ := ih (2 * p) (hshift tries ▸ h)
      refine ⟨j + 1, by rw [foldUp, if_pos hlow, hfold, hshift], fun i hi => ?_, hshift j ▸ hreached⟩
      cases i with
      | zero => simpa using hlow
      | succ i => exact hshift i ▸ hbelow i (by omega)
    · exact ⟨0, by simp [foldUp, hlow], by simp, by simpa using hlow⟩

/-- The second pass halves while at or above 5793 / 4096 of the target, where it has halvings enough to get below. -/
theorem foldDown_spec (target : Nat) : ∀ (tries p : Nat), 4096 * (p / 2 ^ tries) < 5793 * target →
    ∃ k, foldDown target tries p = p / 2 ^ k ∧ (∀ i < k, 5793 * target ≤ 4096 * (p / 2 ^ i)) ∧
      4096 * (p / 2 ^ k) < 5793 * target := by
  intro tries
  induction tries with
  | zero => exact fun p h => ⟨0, by simp [foldDown], by simp, h⟩
  | succ tries ih =>
    intro p h
    have hshift : ∀ i, p / 2 ^ (i + 1) = p / 2 / 2 ^ i := fun i => by rw [Nat.div_div_eq_div_mul, pow_succ']
    by_cases hhigh : 5793 * target ≤ 4096 * p
    · obtain ⟨k, hfold, habove, hreached⟩ := ih (p / 2) (hshift tries ▸ h)
      refine ⟨k + 1, by rw [foldDown, if_pos hhigh, hfold, hshift], fun i hi => ?_, hshift k ▸ hreached⟩
      cases i with
      | zero => simpa using hhigh
      | succ i => exact hshift i ▸ habove i (by omega)
    · exact ⟨0, by simp [foldDown, hhigh], by simp, by simpa using hhigh⟩

/-- A sample that the first pass has raised stays below the 65,536 that sixteen halvings bring to 0. -/
theorem raised_lt {target p j : Nat} (hp : p ≤ 16000) (htarget : target ≤ 21622)
    (hbelow : ∀ i < j, 4096 * (p * 2 ^ i) < 2896 * target) : p * 2 ^ j < 2 ^ 16 := by
  cases j with
  | zero => omega
  | succ j =>
    have hlast := hbelow j j.lt_succ_self
    rw [pow_succ, ← Nat.mul_assoc]
    omega

/-- For every sample and every target period that occurs, the sixteen tries of each pass are enough (R145). -/
theorem foldSample_spec {target p : Nat} (hlow : 800 ≤ p) (hhigh : p ≤ 16000) (htlow : 676 ≤ target)
    (hthigh : target ≤ 21622) : ∃ j k, foldSample target p = p * 2 ^ j / 2 ^ k ∧
      (∀ i < j, 4096 * (p * 2 ^ i) < 2896 * target) ∧ 2896 * target ≤ 4096 * (p * 2 ^ j) ∧
      (∀ i < k, 5793 * target ≤ 4096 * (p * 2 ^ j / 2 ^ i)) ∧ 4096 * (p * 2 ^ j / 2 ^ k) < 5793 * target := by
  obtain ⟨j, hup, hbelow, hraised⟩ := foldUp_spec target 16 p (by omega)
  have hgone : p * 2 ^ j / 2 ^ 16 = 0 := Nat.div_eq_of_lt (raised_lt hhigh hthigh hbelow)
  obtain ⟨k, hdown, habove, hfolded⟩ := foldDown_spec target 16 (p * 2 ^ j) (by omega)
  exact ⟨j, k, by rw [foldSample, hup, hdown], hbelow, hraised, habove, hfolded⟩

/-! ## Grade, lean and tally (R146) -/

theorem saturating_eq (x : Nat) : min (x + 1) 65535 = if x < 65535 then x + 1 else 65535 := by
  split <;> omega

namespace MicGrade

variable {g : MicGrade} {o : OpenNote} {p r : Nat}

theorem takeSample_of_none (ho : g.openNote = none) (p : Nat) : g.takeSample p = { g with live := ⟨.none, .centre⟩ } := by
  simp only [takeSample, ho]
  rfl

theorem takeSample_of_some (ho : g.openNote = some o) (hr : ratioOf o.period p = r) :
    g.takeSample p = { g with openNote := some (o.tally (gradeOf r)), live := ⟨gradeOf r, leanOf r⟩ } := by
  simp only [takeSample, ho, hr]

/-- A sample graded by its ratio: the EXACT band lies inside the CLOSE band, and outside it the lean is by the side of the
target (R146). -/
theorem takeSample_graded (ho : g.openNote = some o) (hr : ratioOf o.period p = r) : g.takeSample p =
    if 4038 ≤ r ∧ r ≤ 4155 then
      { g with openNote := some { o with exact := if o.exact < 65535 then o.exact + 1 else 65535 },
               live := ⟨.exact, .centre⟩ }
    else if 3980 ≤ r ∧ r ≤ 4215 then
      { g with openNote := some { o with close := if o.close < 65535 then o.close + 1 else 65535 },
               live := ⟨.close, if r < 4096 then .sharp else .flat⟩ }
    else
      { g with openNote := some { o with miss := if o.miss < 65535 then o.miss + 1 else 65535 },
               live := ⟨.miss, if r < 4096 then .sharp else .flat⟩ } := by
  rw [takeSample_of_some ho hr, gradeOf, leanOf]
  by_cases hexact : 4038 ≤ r ∧ r ≤ 4155
  · simp only [if_pos hexact, OpenNote.tally, saturating_eq]
  · by_cases hclose : 3980 ≤ r ∧ r ≤ 4215
    · simp only [if_neg hexact, if_pos hclose, OpenNote.tally, saturating_eq]
    · simp only [if_neg hexact, if_neg hclose, OpenNote.tally, saturating_eq]

end MicGrade

theorem Grader.takeSample_of_following {g : Grader} (h : g.mode = .following) (p : Nat) :
    g.takeSample .a p = { g with micA := g.micA.takeSample p } ∧
    g.takeSample .b p = { g with micB := g.micB.takeSample p } :=
  ⟨if_pos h, if_pos h⟩

/-- Settles O39: the microphone's own sample, by whether it has a note open, and then by the fold and its ratio. -/
theorem samplesAreFoldedAndGraded : Obligations.SamplesAreFoldedAndGraded := by
  intro m p g hmode hlow hhigh u after
  have htake : g.takeSample m p = after (u.takeSample p) := by
    obtain ⟨hA, hB⟩ := Grader.takeSample_of_following hmode p
    cases m with
    | a => exact hA
    | b => exact hB
  rw [htake]
  refine ⟨fun ho => by rw [MicGrade.takeSample_of_none ho], fun o ho htlow hthigh => ?_⟩
  obtain ⟨j, k, hfold, hbelow, hraised, habove, hfolded⟩ := foldSample_spec hlow hhigh htlow hthigh
  exact ⟨j, k, hbelow, hraised, habove, hfolded,
    congrArg after (MicGrade.takeSample_graded ho (by rw [ratioOf, hfold]))⟩

end Sys2Proof.Machine
end

section
/-! # What a command does to the history (R163, R168, R169, R172)

A command takes at most one record: an event of the deck or of the staging controller adds it, and what the lines do around
that event leaves the results store as it is and SONG_DONE set. -/

namespace Sys2Proof.Machine

namespace State

variable {s t u : State}

/-- SONG_DONE is set (R163, R192). -/
def SongDone (s : State) : Prop := s.desk.flags.songDone = true

/-- What one command may do to the history: leave it, empty it, or put one record in front (R163, R168, R169). -/
def HistoryStep (s t : State) : Prop :=
  t.results.history = s.results.history ∨ t.results.history = [] ∨
    ∃ r, t.results.history = (r :: s.results.history).take 16 ∧ r.finish = t.results.counter ∧
      t.results.counter = s.nextFinish ∧ t.SongDone

theorem HistoryStep.of_results (h : t.results = s.results) : s.HistoryStep t := .inl (by rw [h])

theorem HistoryStep.refl (s : State) : s.HistoryStep s := .of_results rfl

/-- Before its event a command may change all but the results store. -/
theorem HistoryStep.before (h : u.HistoryStep t) (hu : u.results = s.results) : s.HistoryStep t := by
  unfold HistoryStep nextFinish at h ⊢
  rwa [hu] at h

/-- After its event a command may change all but the results store and a set SONG_DONE. -/
theorem HistoryStep.after (h : s.HistoryStep t) (hu : u.results = t.results) (hdone : t.SongDone → u.SongDone) :
    s.HistoryStep u := by
  unfold HistoryStep at h ⊢
  rw [hu]
  exact h.imp_right (Or.imp_right fun ⟨r, hhist, hfinish, hcounter, hset⟩ => ⟨r, hhist, hfinish, hcounter, hdone hset⟩)

theorem HistoryStep.live {event : State → State} (h : s.HistoryStep (event s)) : s.HistoryStep (s.live event) := by
  unfold State.live
  split
  · exact h
  · exact .refl s

/-! ## What leaves SONG_DONE set (R192) -/

theorem songDone_of_desk (h : s.SongDone) (hdesk : t.desk = s.desk) : t.SongDone := by
  unfold SongDone
  rwa [hdesk]

theorem raise_songDone_self (s : State) : (s.raise .songDone).SongDone := rfl

theorem SongDone.raise (h : s.SongDone) (f : EventFlag) : (s.raise f).SongDone := by
  cases f
  case songDone => exact s.raise_songDone_self
  all_goals exact h

theorem SongDone.post (h : s.SongDone) : s.post.SongDone := songDone_of_desk h s.post_desk

theorem SongDone.noteShortage (h : s.SongDone) : s.noteShortage.SongDone := by
  unfold State.noteShortage
  split
  · exact h
  · exact SongDone.raise (s := s.setRoom _) h _

theorem SongDone.startEntry (h : s.SongDone) (e : Entry) (rest : List Entry) : (s.startEntry e rest).SongDone := by
  have hqueued := SongDone.raise (s := s.lyricCatchUp.graderCatchUp.setRoom
    { s.lyricCatchUp.graderCatchUp.room with entries := rest, shortage := false }) h .queueChanged
  exact songDone_of_desk hqueued (by simp [State.startEntry])

theorem SongDone.reexamine (h : s.SongDone) : s.reexamine.SongDone := by
  obtain hr | hr | ⟨-, -, e, rest, -, hr⟩ := s.reexamine_cases <;> rw [hr]
  · exact h
  · exact h.noteShortage
  · exact h.startEntry e rest

theorem SongDone.queueEvent (h : s.SongDone) (q : RoomQueue) : (s.queueEvent q).SongDone := by
  have hchanged : ((s.setRoom q).raise .queueChanged).SongDone := SongDone.raise (s := s.setRoom q) h _
  unfold State.queueEvent headEvent
  split
  · exact hchanged
  · refine SongDone.post (SongDone.reexamine ?_)
    exact hchanged

theorem SongDone.idleEvent (h : s.SongDone) : s.idleEvent.SongDone :=
  (SongDone.reexamine (s := s.setDeck s.deck.toIdle) h).post

/-! ## The events that add a record (R62, R89, R163) -/

theorem addRecord_songDone (s : State) (r : HistoryRecord) : (s.addRecord r).SongDone := by
  have hadded := (s.setResults (s.results.add r)).raise_songDone_self
  unfold addRecord
  dsimp only
  split
  · exact hadded.raise _
  · exact hadded

theorem addRecord_historyStep (s : State) (r : HistoryRecord) : s.HistoryStep (s.addRecord r) := by
  refine .inr (.inr ⟨{ r with finish := s.results.nextFinish }, ?_, ?_, ?_, s.addRecord_songDone r⟩)
  all_goals rw [addRecord_results]
  · rfl
  · rfl
  · exact nextFinish_results s

theorem finalise_historyStep (s : State) (o : SongOutcome) (m : Nat) : s.HistoryStep (s.finalise o m) := by
  unfold finalise
  split
  · exact .refl s
  dsimp only
  split
  · exact (addRecord_historyStep _ _).before (by simp)
  · exact (addRecord_historyStep _ _).before (by simp)

theorem endSong_historyStep (s : State) (o : SongOutcome) : s.HistoryStep (s.endSong o) :=
  (finalise_historyStep _ _ _).before (by simp)

theorem HistoryStep.post (h : s.HistoryStep t) : s.HistoryStep t.post := h.after t.post_results SongDone.post

theorem HistoryStep.idleEvent (h : s.HistoryStep t) : s.HistoryStep t.idleEvent := h.after t.idleEvent_results SongDone.idleEvent

theorem skipEvent_historyStep (s : State) (i : Nat) : s.HistoryStep (s.skipEvent i).1 := by
  obtain hr | ⟨-, -, hr⟩ := s.skipEvent_cases i <;> rw [hr]
  · exact .refl s
  · exact (s.endSong_historyStep _).post

theorem stopSongEvent_historyStep (s : State) : s.HistoryStep s.stopSongEvent.1 := by
  obtain hr | ⟨-, -, hr⟩ := s.stopSongEvent_cases <;> rw [hr]
  · exact .refl s
  · exact (s.endSong_historyStep _).post

theorem stageFailEvent_historyStep (s : State) (i : Nat) : s.HistoryStep (s.stageFailEvent i).1 := by
  obtain hr | ⟨e, -, hr⟩ := s.stageFailEvent_cases i <;> rw [hr]
  · exact .refl s
  · exact (s.addRecord_historyStep _).after (by simp) (SongDone.queueEvent · _)

/-- An END mark finalises a song that is still held; every other mark leaves the results store (R74, R86, R91). -/
theorem takeMark_historyStep (s : State) (i m : Nat) (k : Byte) : s.HistoryStep (s.takeMark i m k).1 := by
  obtain hr | ⟨-, hr | hr⟩ := s.takeMark_cases i m k <;> rw [hr]
  · exact .refl s
  · exact .of_results (by simp)
  · obtain hr | ⟨-, hr⟩ | ⟨-, -, marked, o, final, hr, hmarked⟩ := s.takeEnd_cases m <;> rw [hr]
    · exact .refl s
    · exact .of_results (by simp)
    · have hres : marked.results = s.results := by obtain rfl | rfl | rfl := hmarked <;> simp
      exact ((marked.finalise_historyStep o final).before hres).idleEvent

/-! ## The commands that empty the history (R168, R169) -/

theorem roomClearEvent_history (s : State) : s.roomClearEvent.results.history = [] := by
  simp [roomClearEvent, Results.cleared]

theorem newSessionCommand_history (s : State) : (newSessionCommand s).1.results.history = [] := by
  unfold newSessionCommand
  dsimp only
  split <;> simp [Results.newSession]

/-! ## What leaves the results store as it is -/

theorem configure_results (s : State) (item : ConfigItem) (v : Nat) : (configure s item v).results = s.results := by
  cases item
  case baud =>
    unfold configure setBaud
    dsimp only
    split <;> rfl
  all_goals rfl

theorem stallExpiry_results (s : State) : (stallExpiry s).results = s.results := by simp [stallExpiry]

theorem tick_results (s : State) : (tick s).results = s.results := by
  have hdesk : (tickDesk (s.setFront s.front.tick)).results = s.results := by
    unfold tickDesk
    split <;> rfl
  unfold tick
  obtain ⟨-, hr⟩ | ⟨-, -, hr⟩ | ⟨-, hr⟩ := (tickDesk (s.setFront s.front.tick)).tickDeck_cases <;> rw [hr]
  · simpa using hdesk
  · simpa using hdesk
  · simpa [stallExpiry] using hdesk

theorem takeEdge_results (m : Mic) (counts : Nat) (s : State) : (takeEdge m counts s).results = s.results := by
  unfold takeEdge
  dsimp only
  split <;> simp

end State

open State

/-! ## The lines (R32, R176, R188) -/

theorem panelOwner_historyStep (k : PanelKind) (l : PanelLine) (p : List Byte) (s : State) :
    s.HistoryStep (panelOwner k l p s).1 := by
  cases k
  case askSong => exact .of_results (submit_results ..)
  case dropEntry => exact .of_results (cancel_results ..)
  case shiftEntry => exact .of_results (panelMove_results ..)
  case skipNow => exact s.skipEvent_historyStep _
  case hold => exact .of_results s.holdEvent_results
  case go => exact .of_results s.goEvent_results
  case key => exact .of_results (keyEvent_results ..)
  case peekQueue | peekNow | peekPast => exact .refl s

theorem dispatchFrame_historyStep (l : PanelLine) (kind : Byte) (p : List Byte) (s : State) :
    s.HistoryStep (dispatchFrame l kind p s) := by
  unfold dispatchFrame sendReply
  split
  · exact .of_results (by simp)
  split
  · exact .of_results (by simp)
  · next k _ _ => exact (panelOwner_historyStep k l p s).after (by simp) fun h => songDone_of_desk h (by simp)

theorem takeFrame_historyStep (l : PanelLine) (kind : Byte) (p : List Byte) (s : State) :
    s.HistoryStep (takeFrame l kind p s) := by
  unfold takeFrame
  dsimp only
  split
  · exact .of_results (by simp)
  split
  · exact (dispatchFrame_historyStep l kind p _).before (by simp)
  split
  · exact (dispatchFrame_historyStep l kind p _).before (by simp)
  · exact .of_results (by simp [sendReply])

/-- A character that completes a frame is that frame at the request stage (R28). -/
theorem takeCharacter_historyStep (l : PanelLine) (r : Received) (s : State) : s.HistoryStep (takeCharacter l r s) := by
  unfold takeCharacter
  dsimp only
  split
  · exact .of_results (by simp)
  · exact (takeFrame_historyStep l _ _ _).before (by simp)
  · exact .of_results (by simp)

theorem mediaOwner_historyStep (k : MediaKind) (p : List Byte) (s : State) : s.HistoryStep (mediaOwner k p s).1 := by
  cases k
  case stageOpen => exact .of_results (stageOpenEvent_results ..)
  case line => exact .of_results (stageLineEvent_results ..)
  case note => exact .of_results (stageNoteEvent_results ..)
  case stageClose => exact .of_results (stageCloseEvent_results ..)
  case stageFail => exact s.stageFailEvent_historyStep _
  case timeMark => exact s.takeMark_historyStep _ _ _
  case readDirective | repeatAnswer => exact .refl s
  case ackDirective =>
    unfold mediaOwner ackDirectiveCommand
    dsimp only
    split <;> exact .of_results rfl
  case readScene =>
    unfold mediaOwner readSceneCommand
    dsimp only
    split
    · exact .refl s
    · exact .of_results (by simp [sceneLyric])

theorem takeCommand_historyStep (kind : Byte) (p : List Byte) (check : Byte) (s : State) :
    s.HistoryStep (takeCommand kind p check s) := by
  unfold takeCommand answerWith
  split
  · exact .refl s
  split
  · exact .of_results rfl
  · exact (mediaOwner_historyStep _ p s).after rfl id

theorem deskOwner_historyStep (k : DeskKind) (p : List Byte) (s : State) : s.HistoryStep (deskOwner k p s).1 := by
  cases k
  case creditsSet | creditsAdd | creditsUnlimited => exact .of_results (accountEvent_results ..)
  case unlock => exact .of_results s.unlockRoom_results
  case configSet =>
    unfold deskOwner configSetCommand
    dsimp only
    split
    · exact .refl s
    · exact .of_results (configure_results ..)
  case insertPriority => exact .of_results (submit_results ..)
  case promote => exact .of_results (promoteId_results ..)
  case move => exact .of_results (deskMove_results ..)
  case remove => exact .of_results (removeId_results ..)
  case stopSong => exact s.stopSongEvent_historyStep
  case readLineCounters =>
    unfold deskOwner readLineCountersCommand
    dsimp only
    split <;> exact .of_results rfl
  case newSession => exact .inr (.inl s.newSessionCommand_history)
  case roomClear => exact .inr (.inl s.roomClearEvent_history)
  case standby => exact .of_results s.standbyEvent_results
  case wake =>
    unfold deskOwner wakeCommand
    dsimp only
    split
    · exact .of_results s.leaveStandby_results
    · exact .refl s
  case status | readEvents | ackEvents | eventMask | lock | configRead | readQueue | readHistory | readBoard | deskReset =>
    exact .of_results rfl

theorem takeWrite_historyStep (kind : Byte) (p : List Byte) (s : State) : s.HistoryStep (takeWrite kind p s) := by
  unfold takeWrite replyWith
  split
  · exact .refl s
  dsimp only
  split
  · exact .of_results rfl
  · exact ((deskOwner_historyStep _ p s.endTransaction).before rfl).after rfl id

/-! ## Every command -/

/-- A command changes the history through the owner that its line hands it to, through a timer of the deck, or through
reset. -/
theorem exec_historyStep {c : Instr} {s t : State} (hexec : exec c s = .next t) : s.HistoryStep t := by
  cases c
  case panelCharacter l x y z =>
    cases hexec
    refine .live ?_
    split
    · exact .refl s
    split
    · exact takeCharacter_historyStep l _ s
    · exact .refl s
  case askSong | dropEntry | shiftEntry | skipNow | hold | go | key | peekQueue | peekNow | peekPast | panelUnknownKind =>
    cases hexec
    exact .live (takeFrame_historyStep _ _ _ s)
  case stageOpen | line | note | stageClose | stageFail | timeMarkRun | timeMarkEnd | readDirective | ackDirective |
      readScene | repeatAnswer | mediaUnknownKind =>
    cases hexec
    exact .live (takeCommand_historyStep _ _ _ s)
  case status | readEvents | ackEvents | eventMask | creditsSet | creditsAdd | creditsUnlimited | lock | unlock |
      configSet | configRead | insertPriority | promote | move | remove | stopSong | readQueue | readHistory | readBoard |
      readLineCounters | newSession | roomClear | standby | wake | deskReset | deskUnknownKind =>
    cases hexec
    exact .live (takeWrite_historyStep _ _ s)
  case startTimerExpiry =>
    cases hexec
    refine .live ?_
    split
    · exact (s.endSong_historyStep _).post
    · exact .refl s
  case stallLimitExpiry =>
    cases hexec
    refine .live ?_
    split
    · exact ((s.endSong_historyStep _).after (raise_results _ .mediaLost) (SongDone.raise · _)).post
    · exact .refl s
  case stopTimerExpiry =>
    cases hexec
    refine .live ?_
    split
    · exact (HistoryStep.refl s).idleEvent
    · exact .refl s
  case leavingReset pins =>
    cases hexec
    split
    · exact .inr (.inl rfl)
    · exact .refl s
  case panelBreak | msnFall | msnRise | lineReturnsHigh =>
    cases hexec
    refine .of_results ?_
    (repeat' split) <;> simp
  case millisecondTick =>
    cases hexec
    split
    · exact .of_results s.tick_results
    · exact .of_results rfl
  case stallTimerExpiry =>
    cases hexec
    refine .live (.of_results ?_)
    split
    · exact s.tick_results
    split
    · exact s.stallExpiry_results
    · rfl
  case zeroCrossEdge m counts =>
    cases hexec
    refine .live (.of_results ?_)
    split
    · exact takeEdge_results m counts s
    · rfl
  case gap | deskStartCondition | deskBusTimeout | settleTimerExpiry | lyricStep | lyricRebuild | graderStep | graderRewind =>
    cases hexec
    refine .live (.of_results ?_)
    (repeat' split) <;> simp [endTransaction]
  case shiftCompletion | deskStopCondition | lyricNewSong | lyricDropSong | graderNewSong | graderFinalScores |
      graderSongEnded | graderDiscard | conversionCompletion =>
    cases hexec
    exact .live (.of_results (by simp [endTransaction]))
  case powerOn | lowSupply | resetPin | supplyRecovery | rstnRelease =>
    cases hexec
    exact .of_results rfl

/-- Settles O60: `HistoryStep` is what the statement asks of a command's next state. -/
theorem historyGrowsByOneOrIsEmptied : Obligations.HistoryGrowsByOneOrIsEmptied :=
  fun _ _ _ hexec => exec_historyStep hexec

end Sys2Proof.Machine
end

section
/-! # A step, the select line, the port's checks, the directive, and what is taken in reset (R173 to R176, R178, R179,
R181, R182, R186, R191, R198) -/

namespace Sys2Proof.Machine

open State

variable {s : State}

/-! ## The clocks of the lines (R174, R175, R191) -/

/-- The answer's check is its byte at place `length + 3`: the port clocks on before it and is TRAILING after it (R175). -/
theorem MediaPort.clockByte_eq_ite (m : MediaPort) : m.clockByte =
    if m.state = .command then { m with place := m.place + 1 }
    else if m.state = .answer then
      (if m.place < m.lastAnswer.payload.length + 3 then { m with place := m.place + 1 }
      else { m with state := .trailing, place := 0 })
    else m := by
  obtain ⟨hstate, h⟩ | ⟨hstate, hplace, h⟩ | ⟨hstate, hplace, h⟩ | ⟨hcommand, hanswer, h⟩ := m.clockByte_cases
  · rw [h, if_pos hstate]
  · rw [Answer.bytes_length] at hplace
    rw [h, if_neg (by simp [hstate]), if_pos hstate, if_pos (by omega)]
  · rw [Answer.bytes_length] at hplace
    rw [h, if_neg (by simp [hstate]), if_pos hstate, if_neg (by omega)]
  · rw [h, if_neg hcommand, if_neg hanswer]

/-- Settles O50: an empty queue clocks the media port and the desk bus, and nothing in reset. -/
theorem stepRunsFrontCommand : Obligations.StepRunsFrontCommand := by
  refine ⟨fun c s => ?_, fun c rest s hpending => step_cons hpending, fun s hempty hreset => ?_, ?_⟩
  · rw [step_cons rfl, setPending_setPending, setPending_self]
  · rw [step_empty hempty, live_inReset hreset]
  · intro s hempty hrun m port desk
    have hport : s.port.clockByte = port := MediaPort.clockByte_eq_ite _
    have hdesk : s.desk.clockFall = desk := rfl
    rw [step_empty hempty, live_running hrun, State.clockLines, hport, hdesk]

/-! ## The select line and MDO (R173 to R175, R178) -/

theorem mdo_eq (hrun : s.running = true) : s.mdo = if s.port.selectHigh then none else s.port.outByte := by
  unfold State.mdo
  cases s.port.selectHigh <;> simp [hrun]

theorem mdo_selectLow (hrun : s.running = true) (hlow : s.port.selectHigh = false) : s.mdo = s.port.outByte := by
  rw [mdo_eq hrun, hlow]
  rfl

theorem exec_msnFall (hrun : s.running = true) : exec .msnFall s = .next (if s.port.selectHigh then
    s.setPort { s.port with
      selectHigh := false, state := .command, firstByte := some (byteOf s.port.changeCount), place := 0 }
    else s) := by
  simp only [exec, execMsnFall, hrun, if_true]

theorem exec_msnRise (hrun : s.running = true) : exec .msnRise s = .next (if s.port.selectHigh then s
    else s.setPort { s.port with selectHigh := true, state := .unselected, firstByte := none, place := 0 }) := by
  simp only [exec, execMsnRise, hrun, if_true]

/-- A check brings the sum of the bytes before it to 0 (R173). -/
theorem checkByte_sum (body : List Byte) :
    ((body.map BitVec.toNat).sum + (0#8 - byteSum body).toNat) % 256 = 0 := by
  simp only [byteSum_eq, BitVec.toNat_sub, BitVec.toNat_ofNat]
  omega

/-! ## The port's checks (R174, R176) -/

/-- The row of a media port command is the command taken at its check byte, whatever its kind (R176, R177). -/
theorem exec_ofCommand (hrun : s.running = true) (kind : Byte) (p : List Byte) (check : Byte) :
    exec (Instr.ofCommand kind p check) s = .next (takeCommand kind p check s) := by
  have hlive : exec (Instr.ofCommand kind p check) s = .next (s.live (takeCommand kind p check)) := by
    unfold Instr.ofCommand
    (repeat' split) <;> subst_vars <;> rfl
  rw [hlive, live_running hrun]

theorem exec_mediaUnknownKind (hrun : s.running = true) (kind : Byte) (p : List Byte) (check : Byte) :
    exec (.mediaUnknownKind kind p check) s = .next (takeCommand kind p check s) := by
  simp only [exec, execMediaUnknownKind, live_running hrun]

/-- A port that is not in COMMAND takes no command (R174). -/
theorem takeCommand_untaken (hstate : s.port.state ≠ .command) (kind : Byte) (p : List Byte) (check : Byte) :
    takeCommand kind p check s = s := if_pos hstate

theorem MediaKind.code_toNat_range (k : MediaKind) : 1 ≤ k.code.toNat ∧ k.code.toNat ≤ 10 := by
  cases k <;> decide

theorem MediaKind.mediaKindOf_code (k : MediaKind) : mediaKindOf k.code = some k := by cases k <;> rfl

theorem mediaKindOf_eq_none {kind : Byte} (h : ¬(1 ≤ kind.toNat ∧ kind.toNat ≤ 10)) : mediaKindOf kind = none := by
  refine List.find?_eq_none.2 fun k _ hk => h ?_
  rw [← beq_iff_eq.1 hk]
  exact k.code_toNat_range

/-- Every kind byte from 1 to 10 is a command's (section 11.4). -/
theorem exists_mediaKind_code {kind : Byte} (hlow : 1 ≤ kind.toNat) (hhigh : kind.toNat ≤ 10) :
    ∃ k : MediaKind, kind = k.code := by
  obtain ⟨n, hn, rfl⟩ : ∃ n, n = kind.toNat ∧ kind = BitVec.ofNat 8 n := ⟨_, rfl, by simp⟩
  rw [← hn] at hlow hhigh
  clear hn
  interval_cases n
  exacts [⟨.stageOpen, rfl⟩, ⟨.line, rfl⟩, ⟨.note, rfl⟩, ⟨.stageClose, rfl⟩, ⟨.stageFail, rfl⟩, ⟨.timeMark, rfl⟩,
    ⟨.readDirective, rfl⟩, ⟨.ackDirective, rfl⟩, ⟨.readScene, rfl⟩, ⟨.repeatAnswer, rfl⟩]

theorem MediaKind.code_eq_line_iff (k : MediaKind) : k.code = 0x02#8 ↔ k = .line := by cases k <;> decide

/-- The payload length of every kind but LINE, by its code (R176, section 11.4). -/
theorem MediaKind.lengthFits_iff {k : MediaKind} (hk : k ≠ .line) (p : List Byte) :
    k.lengthFits p = true ↔ [17, 0, 11, 1, 2, 5, 0, 1, 0, 0][k.code.toNat - 1]? = some p.length := by
  have key : ∀ n : Nat, (p.length == n) = true ↔ some n = some p.length := fun n => by
    rw [beq_iff_eq, Option.some.injEq, eq_comm]
  cases k
  case line => exact absurd rfl hk
  all_goals exact key _

/-- A LINE has its head, its syllable records and two bytes for each glyph they count (R176, section 11.4). -/
theorem lengthFits_line_iff (p : List Byte) : MediaKind.line.lengthFits p = true ↔
    ¬(p.length < 9 ∨ p.length < 9 + 6 * (byteAt p 8).toNat ∨ p.length ≠ 9 + 6 * (byteAt p 8).toNat +
      2 * ((List.range (byteAt p 8).toNat).map fun k => (byteAt p (9 + 6 * k + 5)).toNat).sum) := by
  have htotal : glyphTotal (syllablesOf p) =
      ((List.range (byteAt p 8).toNat).map fun k => (byteAt p (9 + 6 * k + 5)).toNat).sum := by
    rw [glyphTotal, syllablesOf, List.map_map]
    rfl
  rw [MediaKind.lengthFits, beq_iff_eq, impliedLineLength, htotal, glyphBase]
  by_cases hshort : p.length < 9 ∨ p.length < 9 + 6 * (byteAt p 8).toNat
  · rw [if_pos hshort]
    exact iff_of_false nofun fun hfits => hfits (by omega)
  · rw [if_neg hshort, Option.some.injEq]
    omega

theorem portCheck_tooLarge {p : List Byte} (hlong : 1280 < p.length) (kind check : Byte) :
    portCheck kind p check = .error .tooLarge := if_pos hlong

theorem portCheck_badSum {kind check : Byte} {p : List Byte} (hcap : p.length ≤ 1280) (hsum : ¬SumsToZero kind p check) :
    portCheck kind p check = .error .badField := by
  rw [← commandSumOk_iff, Bool.not_eq_true] at hsum
  rw [portCheck, if_neg (Nat.not_lt.2 hcap), hsum]
  rfl

theorem portCheck_badKind {kind check : Byte} {p : List Byte} (hcap : p.length ≤ 1280) (hsum : SumsToZero kind p check)
    (hkind : mediaKindOf kind = none) : portCheck kind p check = .error .badKind := by
  rw [portCheck, if_neg (Nat.not_lt.2 hcap), (commandSumOk_iff _ _ _).2 hsum, hkind]
  rfl

theorem portCheck_badLength {check : Byte} {p : List Byte} {k : MediaKind} (hcap : p.length ≤ 1280)
    (hsum : SumsToZero k.code p check) (hl : ¬k.lengthFits p = true) : portCheck k.code p check = .error .badField := by
  rw [portCheck, if_neg (Nat.not_lt.2 hcap), (commandSumOk_iff _ _ _).2 hsum, k.mediaKindOf_code]
  exact if_neg hl

/-- Settles O40: the select line and MDO by the port's state, then one check of the order after the other. -/
theorem selectAndPortChecksInOrder : Obligations.SelectAndPortChecksInOrder := by
  intro kind p check s hrun c known syllables glyphs wrongLength m body
  have hout : m.selectHigh = false → s.mdo = m.outByte := mdo_selectLow hrun
  have hrefused : ∀ {code}, s.port.state = .command → portCheck kind p check = .error code →
      exec c s = .next (s.answered code []) := fun hstate hcheck => by
    rw [exec_ofCommand hrun, takeCommand_refused hstate hcheck]
  refine ⟨fun hhigh => ⟨?_, ?_, ?_⟩, fun hlow => ⟨?_, ?_⟩, fun hlow hstate => ?_, fun hlow hstate hplace => ?_,
    fun hlow hstate hplace => ?_, fun hlow hstate => ⟨0#8 - byteSum body, checkByte_sum body, ?_⟩,
    fun hlow hstate => ?_, fun hstate => ?_, fun hstate hlong => hrefused hstate (portCheck_tooLarge hlong kind check),
    fun hstate hcap hsum => hrefused hstate (portCheck_badSum hcap hsum), fun hstate hcap hsum hunknown => ?_,
    fun hstate hcap hsum hknown hwrong => ?_⟩
  · rw [mdo_eq hrun, if_pos hhigh]
  · rw [exec_msnRise hrun, if_pos hhigh]
  · rw [exec_msnFall hrun, if_pos hhigh]
  · rw [exec_msnFall hrun, if_neg (Bool.eq_false_iff.1 hlow)]
  · rw [exec_msnRise hrun, if_neg (Bool.eq_false_iff.1 hlow)]
  · rw [hout hlow, MediaPort.outByte]
    obtain h | h := hstate <;> rw [h]
  · rw [hout hlow, MediaPort.outByte, hstate]
    exact if_pos hplace
  · rw [hout hlow, MediaPort.outByte, hstate]
    exact if_neg hplace
  · rw [hout hlow, MediaPort.outByte, hstate]
    rfl
  · rw [hout hlow, MediaPort.outByte, hstate]
  · rw [exec_ofCommand hrun, takeCommand_untaken hstate]
  · rw [exec_mediaUnknownKind hrun,
      takeCommand_refused hstate (portCheck_badKind hcap hsum (mediaKindOf_eq_none hunknown))]
  · obtain ⟨k, rfl⟩ := exists_mediaKind_code hknown.1 hknown.2
    refine hrefused hstate (portCheck_badLength hcap hsum ?_)
    by_cases hk : k = .line
    · subst hk
      exact fun hfits => (lengthFits_line_iff p).1 hfits ((if_pos rfl).mp hwrong)
    · exact mt (MediaKind.lengthFits_iff hk p).1 ((if_neg (mt k.code_eq_line_iff.1 hk)).mp hwrong)

/-! ## READ DIRECTIVE, ACK DIRECTIVE and REPEAT ANSWER (R179, R181, R182) -/

theorem matnAsserted_iff (hrun : s.running = true) : s.matnAsserted = true ↔ s.port.changeCount ≠ s.port.ackCount := by
  simp [State.matnAsserted, hrun]

theorem exec_readDirective {check : Byte} (hs : s.AtCheck) (hsum : SumsToZero 0x07#8 [] check) :
    exec (.readDirective [] check) s = .next (s.answered .ok (directiveBytes s.port)) :=
  exec_media (k := .readDirective) rfl hs hsum rfl (Nat.zero_le _)

theorem exec_repeatAnswer {check : Byte} (hs : s.AtCheck) (hsum : SumsToZero 0x0A#8 [] check) :
    exec (.repeatAnswer [] check) s = .next (s.answered s.port.lastAnswer.code s.port.lastAnswer.payload) :=
  exec_media (k := .repeatAnswer) rfl hs hsum rfl (Nat.zero_le _)

theorem exec_ackDirective {p : List Byte} {check : Byte} (hs : s.AtCheck) (hsum : SumsToZero 0x08#8 p check)
    (hl : p.length = 1) : exec (.ackDirective p check) s = .next ((ackDirectiveCommand p s).1.answered
      (ackDirectiveCommand p s).2.code (ackDirectiveCommand p s).2.payload) :=
  exec_media (k := .ackDirective) rfl hs hsum (by simp [MediaKind.lengthFits, hl]) (by omega)

/-- The present change count acknowledged is the acknowledged count from then on (R181). -/
theorem ackDirectiveCommand_present {p : List Byte} (h : (byteAt p 0).toNat = s.port.changeCount) :
    ackDirectiveCommand p s =
      (s.setPort { s.port with ackCount := s.port.changeCount }, ⟨.ok, [byteOf s.port.changeCount]⟩) := by
  rw [ackDirectiveCommand, if_pos h, h]

theorem ackDirectiveCommand_stale {p : List Byte} (h : (byteAt p 0).toNat ≠ s.port.changeCount) :
    ackDirectiveCommand p s = (s, ⟨.stale, [byteOf s.port.changeCount]⟩) := if_neg h

/-- Settles O41: each command's owner gives its answer, and MATN compares the two counts. -/
theorem directiveReadAckAndRepeat : Obligations.DirectiveReadAckAndRepeat := by
  intro p check s hs m d acked
  refine ⟨fun hsum => exec_readDirective hs hsum, fun hsum hl hpresent => ⟨?_, ?_⟩, fun hsum hl hstale => ?_,
    fun hsum => exec_repeatAnswer hs hsum, matnAsserted_iff hs.1⟩
  · rw [exec_ackDirective hs hsum hl, ackDirectiveCommand_present hpresent]
  · have hrun : (acked.answered .ok [byteOf m.changeCount]).running = true := hs.1
    exact Bool.eq_false_iff.2 fun h => (matnAsserted_iff hrun).1 h rfl
  · rw [exec_ackDirective hs hsum hl, ackDirectiveCommand_stale hstale]

/-! ## In reset (R186, R198) -/

/-- The state with other levels at the panel receive inputs and at MSN, and another first byte at MDO. -/
def State.withLevels (s : State) (a b select : Bool) (first : Option Byte) : State :=
  { s with
    panelA := { s.panelA with lineHigh := a }
    panelB := { s.panelB with lineHigh := b }
    port := { s.port with selectHigh := select, firstByte := first } }

theorem withLevels_self (s : State) :
    s.withLevels s.panelA.lineHigh s.panelB.lineHigh s.port.selectHigh s.port.firstByte = s := rfl

theorem exec_panelBreak_inReset (hreset : s.running = false) (l : PanelLine) :
    exec (.panelBreak l) s = .next (s.setPanel l { s.panel l with lineHigh := false }) := by
  simp [exec, execPanelBreak, hreset]

theorem exec_lineReturnsHigh_inReset (hreset : s.running = false) (l : PanelLine) :
    exec (.lineReturnsHigh l) s = .next (s.setPanel l { s.panel l with lineHigh := true }) := by
  simp [exec, execLineReturnsHigh, hreset]

/-- A panel line's level alone changed. -/
theorem setPanel_lineHigh_withLevels (s : State) (l : PanelLine) (high : Bool) : ∃ a b,
    s.setPanel l { s.panel l with lineHigh := high } = s.withLevels a b s.port.selectHigh s.port.firstByte := by
  cases l
  · exact ⟨high, _, rfl⟩
  · exact ⟨_, high, rfl⟩

theorem exec_msnFall_inReset (hreset : s.running = false) :
    exec .msnFall s = .next (s.setPort { s.port with selectHigh := false }) := by
  simp [exec, execMsnFall, hreset]

theorem exec_msnRise_inReset (hreset : s.running = false) :
    exec .msnRise s = .next (s.setPort { s.port with selectHigh := true, firstByte := none }) := by
  simp [exec, execMsnRise, hreset]

theorem exec_millisecondTick_inReset (hreset : s.running = false) :
    exec .millisecondTick s = .next (s.setResetUnit s.resetUnit.tick) := by
  simp [exec, execMillisecondTick, hreset]

/-- An event that only a running controller takes does nothing in reset (R198). -/
theorem exec_live_inReset {c : Instr} {event : State → State} (hc : exec c s = .next (s.live event))
    (hreset : s.running = false) : exec c s = .next s := by
  rw [hc, live_inReset hreset]

/-- A tick in reset changes the count of the hold alone. -/
theorem ResetUnit.tick_eq (r : ResetUnit) : ∃ hold fromPowerOn left,
    r.tick = { r with startupHold := hold, holdFromPowerOn := fromPowerOn, holdTimer := left } := by
  obtain ⟨-, h⟩ | ⟨n, -, -, h⟩ | ⟨n, -, -, h⟩ := r.tick_cases
  all_goals exact ⟨_, _, _, h⟩

/-- What a row that is neither the tick nor one of reset itself leaves of a state in reset: the levels are followed, and a
rise of MSN releases MDO's first byte. -/
theorem exec_inReset_withLevels {c : Instr} (hreset : s.running = false) (hpower : c ≠ .powerOn) (hlow : c ≠ .lowSupply)
    (hpin : c ≠ .resetPin) (hrecovery : c ≠ .supplyRecovery) (hrelease : c ≠ .rstnRelease)
    (hleaving : ∀ pins, c ≠ .leavingReset pins) (htick : c ≠ .millisecondTick) :
    ∃ a b select first, (first = s.port.firstByte ∨ first = none) ∧
      exec c s = .next (s.withLevels a b select first) := by
  cases c
  case powerOn | lowSupply | resetPin | supplyRecovery | rstnRelease | millisecondTick => contradiction
  case leavingReset pins => exact absurd rfl (hleaving pins)
  case panelBreak l =>
    obtain ⟨a, b, h⟩ := setPanel_lineHigh_withLevels s l false
    exact ⟨a, b, _, _, .inl rfl, by rw [exec_panelBreak_inReset hreset, h]⟩
  case lineReturnsHigh l =>
    obtain ⟨a, b, h⟩ := setPanel_lineHigh_withLevels s l true
    exact ⟨a, b, _, _, .inl rfl, by rw [exec_lineReturnsHigh_inReset hreset, h]⟩
  case msnFall => exact ⟨_, _, false, _, .inl rfl, exec_msnFall_inReset hreset⟩
  case msnRise => exact ⟨_, _, true, none, .inr rfl, exec_msnRise_inReset hreset⟩
  all_goals exact ⟨_, _, _, _, .inl rfl, (exec_live_inReset rfl hreset).trans (congrArg _ (withLevels_self s).symm)⟩

/-- Settles O54: the outputs are gated by `running`, and so is every row but those that follow a level or count the hold. -/
theorem inResetNothingIsTaken : Obligations.InResetNothingIsTaken := by
  intro c s hreset hpower hlow hpin hrecovery hrelease hleaving
  refine ⟨by rw [State.matnAsserted, hreset]; rfl, by rw [State.datnAsserted, hreset]; rfl,
    by rw [State.mdo, hreset]; rfl, fun l => by simp only [State.transmitting, hreset]; rfl,
    exec_inReset_withLevels hreset hpower hlow hpin hrecovery hrelease hleaving, ?_⟩
  rintro rfl
  obtain ⟨hold, fromPowerOn, left, h⟩ := s.resetUnit.tick_eq
  exact ⟨hold, fromPowerOn, left, by rw [exec_millisecondTick_inReset hreset, h]⟩

end Sys2Proof.Machine
end

section
/-! # The desk line's transactions and its checks of a write (R187 to R191) -/

namespace Sys2Proof.Machine

open State

variable {s : State}

/-! ## The start, the stop and the timeout of a transaction (R187, R188, R190, R191) -/

/-- The lowest bit of an address byte is its read bit (R187). -/
theorem getLsbD_zero_iff (a : Byte) : a.getLsbD 0 = true ↔ a.toNat % 2 = 1 := by
  rw [BitVec.getLsbD, Nat.testBit_zero, decide_eq_true_iff]

theorem exec_deskStartCondition_matching {a : Byte} (hrun : s.running = true) (ha : a.toNat / 2 = s.desk.busAddress) :
    exec (.deskStartCondition a) s = .next
      (s.setDesk { s.desk with bus := if a.toNat % 2 = 1 then .reading else .writing, busTimer := some 20 }) := by
  simp only [exec, execDeskStartCondition, live_running hrun, if_pos ha, getLsbD_zero_iff]

theorem exec_deskStartCondition_other {a : Byte} (hrun : s.running = true) (ha : a.toNat / 2 ≠ s.desk.busAddress) :
    exec (.deskStartCondition a) s = .next s.endTransaction := by
  simp only [exec, execDeskStartCondition, live_running hrun, if_neg ha]

theorem exec_deskStopCondition (hrun : s.running = true) : exec .deskStopCondition s = .next s.endTransaction := by
  simp only [exec, execDeskStopCondition, live_running hrun]

theorem exec_deskBusTimeout (hrun : s.running = true) : exec .deskBusTimeout s = .next
    (if s.desk.bus ≠ .idle ∧ s.desk.busTimer = some 0 then s.endTransaction.raise .deskTimeout else s) := by
  simp only [exec, execDeskBusTimeout, live_running hrun]

/-- Settles O43: an address that matches begins a transaction, and every other row ends the one there is. -/
theorem deskTransactions : Obligations.DeskTransactions := by
  intro a s hrun u ended
  refine ⟨exec_deskStartCondition_matching hrun, exec_deskStartCondition_other hrun, exec_deskStopCondition hrun,
    fun hbus hdue => ?_, fun hnot => ?_⟩
  · rw [exec_deskBusTimeout hrun, if_pos ⟨hbus, hdue⟩]
    rfl
  · have hwaits : ¬(s.desk.bus ≠ .idle ∧ s.desk.busTimer = some 0) := fun ⟨hbus, hdue⟩ =>
      hnot.elim hbus (absurd hdue)
    rw [exec_deskBusTimeout hrun, if_neg hwaits]

/-! ## The checks of a write (R188, R189) -/

/-- A row chosen by a test has what both choices have. -/
theorem exec_ite {P : Prop} [Decidable P] {c d : Instr} {r : Host.Outcome State Fault Refusal} (hc : P → exec c s = r)
    (hd : exec d s = r) : exec (if P then c else d) s = r := by
  split
  · exact hc ‹_›
  · exact hd

/-- The row of a desk write is the write taken at its end, whatever its kind (R188). -/
theorem exec_ofWrite (hrun : s.running = true) (kind : Byte) (p : List Byte) :
    exec (Instr.ofWrite kind p) s = .next (takeWrite kind p s) := by
  have hlive : exec (Instr.ofWrite kind p) s = .next (s.live (takeWrite kind p)) := by
    unfold Instr.ofWrite
    repeat refine exec_ite (by rintro rfl; rfl) ?_
    rfl
  rw [hlive, live_running hrun]

theorem exec_deskUnknownKind (hrun : s.running = true) (kind : Byte) (p : List Byte) :
    exec (.deskUnknownKind kind p) s = .next (takeWrite kind p s) := by
  simp only [exec, execDeskUnknownKind, live_running hrun]

/-- A unit that is not WRITING takes no command (R188). -/
theorem takeWrite_untaken (hbus : s.desk.bus ≠ .writing) (kind : Byte) (p : List Byte) : takeWrite kind p s = s :=
  if_pos hbus

theorem DeskKind.code_toNat_range (k : DeskKind) : 0x40 ≤ k.code.toNat ∧ k.code.toNat ≤ 0x58 := by
  cases k <;> decide

theorem deskKindOf_eq_none {kind : Byte} (h : ¬(0x40 ≤ kind.toNat ∧ kind.toNat ≤ 0x58)) : deskKindOf kind = none := by
  refine List.find?_eq_none.2 fun k _ hk => h ?_
  rw [← beq_iff_eq.1 hk]
  exact k.code_toNat_range

/-- The 25 kinds of command, by their code, and the field bytes of each (R189, section 11.5). -/
theorem deskKindOf_eq_some {kind : Byte} (hlow : 0x40 ≤ kind.toNat) (hhigh : kind.toNat ≤ 0x58) :
    ∃ k, deskKindOf kind = some k ∧
      [0, 0, 2, 2, 2, 2, 1, 0, 0, 3, 0, 6, 1, 2, 1, 0, 1, 1, 0, 1, 0, 0, 0, 0, 0][kind.toNat - 0x40]? =
        some k.length := by
  obtain ⟨n, hn, rfl⟩ : ∃ n, n = kind.toNat ∧ kind = BitVec.ofNat 8 n := ⟨_, rfl, by simp⟩
  rw [← hn]
  rw [← hn] at hlow hhigh
  clear hn
  interval_cases n <;> exact ⟨_, rfl, rfl⟩

theorem deskCheck_long {p : List Byte} (hlong : 16 < p.length + 1) (kind : Byte) :
    deskCheck kind p = .error .badField := if_pos hlong

theorem deskCheck_badKind {kind : Byte} {p : List Byte} (hfits : p.length + 1 ≤ 16) (hkind : deskKindOf kind = none) :
    deskCheck kind p = .error .badKind := by
  rw [deskCheck, if_neg (Nat.not_lt.2 hfits), hkind]

theorem deskCheck_badLength {kind : Byte} {p : List Byte} {k : DeskKind} (hfits : p.length + 1 ≤ 16)
    (hkind : deskKindOf kind = some k) (hl : p.length ≠ k.length) : deskCheck kind p = .error .badField := by
  rw [deskCheck, if_neg (Nat.not_lt.2 hfits), hkind]
  exact if_neg hl

/-- Settles O44: one check of the order after the other, and a refused write leaves its reply alone. -/
theorem writeChecksInOrder : Obligations.WriteChecksInOrder := by
  intro kind p s hrun c known
  have hrefused : ∀ {code}, s.desk.bus = .writing → deskCheck kind p = .error code →
      takeWrite kind p s = s.recorded code kind [] := fun hbus hcheck => takeWrite_refused ⟨hrun, hbus⟩ hcheck
  refine ⟨fun hbus => ?_, fun hbus hlong => ?_, fun hbus hfits hunknown => ?_, fun hbus hfits hknown hwrong => ?_⟩
  · rw [exec_ofWrite hrun, takeWrite_untaken hbus]
  · rw [exec_ofWrite hrun, hrefused hbus (deskCheck_long hlong kind)]
  · rw [exec_deskUnknownKind hrun, hrefused hbus (deskCheck_badKind hfits (deskKindOf_eq_none hunknown))]
  · obtain ⟨k, hk, hlength⟩ := deskKindOf_eq_some hknown.1 hknown.2
    have hl : p.length ≠ k.length := fun h => hwrong (by rw [hlength, h])
    rw [exec_ofWrite hrun, hrefused hbus (deskCheck_badLength hfits hk hl)]

end Sys2Proof.Machine
end

section
/-! # The event flags: ACK EVENTS, EVENT MASK, DATN, and what clears a flag (R192, R193, R204) -/

namespace Sys2Proof.Machine

open State

variable {s t : State} {f : EventFlag}

/-! ## Sets of flags, flag by flag (R192, R205) -/

theorem EventFlag.mem_all (f : EventFlag) : f ∈ EventFlag.all := by cases f <;> decide

namespace EventFlags

theorem has_build (p : EventFlag → Bool) (f : EventFlag) : (build p).has f = p f := by cases f <;> rfl

theorem raise_eq_build (w : EventFlags) (g : EventFlag) : w.raise g = build fun f => decide (f = g) || w.has f := by
  cases g <;> rfl

theorem has_raise (w : EventFlags) (f g : EventFlag) : (w.raise g).has f = (decide (f = g) || w.has f) := by
  rw [raise_eq_build, has_build]

theorem has_without (w names : EventFlags) (f : EventFlag) : (w.without names).has f = (w.has f && !names.has f) :=
  has_build _ f

theorem has_ofWord (n : Nat) (f : EventFlag) : (ofWord n).has f = n.testBit f.bit := has_build _ f

theorem anyEnabled_iff (w mask : EventFlags) : w.anyEnabled mask = true ↔ ∃ f, w.has f = true ∧ mask.has f = true := by
  simp only [anyEnabled, List.any_eq_true, Bool.and_eq_true]
  exact ⟨fun ⟨f, _, hf⟩ => ⟨f, hf⟩, fun ⟨f, hf⟩ => ⟨f, f.mem_all, hf⟩⟩

end EventFlags

theorem datnAsserted_iff (hrun : s.running = true) :
    s.datnAsserted = true ↔ ∃ f, s.desk.flags.has f = true ∧ s.desk.mask.has f = true := by
  rw [State.datnAsserted, hrun, Bool.true_and, EventFlags.anyEnabled_iff]

/-! ## ACK EVENTS and EVENT MASK (R193) -/

theorem exec_ackEvents {p : List Byte} (hs : s.AtWrite) (hl : p.length = 2) : exec (.ackEvents p) s = .next
    ((ackEventsCommand p s).1.recorded .ok 0x42#8 (ackEventsCommand p s).2.payload) :=
  exec_desk (k := .ackEvents) rfl hs hl (by simp)

theorem exec_eventMask {p : List Byte} (hs : s.AtWrite) (hl : p.length = 2) : exec (.eventMask p) s = .next
    ((eventMaskCommand p s).1.recorded .ok 0x43#8 (eventMaskCommand p s).2.payload) :=
  exec_desk (k := .eventMask) rfl hs hl (by simp)

/-- Settles O46: both commands build their set flag by flag from the word's bits, and reply with the set's word. -/
theorem eventFlagsAckedAndMasked : Obligations.EventFlagsAckedAndMasked := by
  intro p s hs hl named f left mask word
  have hword : ∀ w, field2 w.toWord = word w := fun w => by rw [toWord_eq]; rfl
  refine ⟨?_, ?_, datnAsserted_iff hs.1⟩
  · rw [exec_ackEvents hs hl, ← hword]
    rfl
  · rw [exec_eventMask hs hl, ← hword]
    rfl

/-! ## What each shared operation leaves of a flag that is set (R192) -/

/-- An event flag is set (R192). -/
def State.HasFlag (s : State) (f : EventFlag) : Prop := s.desk.flags.has f = true

namespace State

theorem HasFlag.of_flags (h : s.HasFlag f) (hflags : t.desk.flags = s.desk.flags) : t.HasFlag f := by
  unfold HasFlag
  rwa [hflags]

theorem HasFlag.of_desk (h : s.HasFlag f) (hdesk : t.desk = s.desk) : t.HasFlag f := h.of_flags (by rw [hdesk])

theorem HasFlag.raise (h : s.HasFlag f) (g : EventFlag) : (s.raise g).HasFlag f := by
  have hset : s.desk.flags.has f = true := h
  have hraised : (s.desk.flags.raise g).has f = true := by rw [EventFlags.has_raise, hset, Bool.or_true]
  exact hraised

theorem HasFlag.post (h : s.HasFlag f) : s.post.HasFlag f := h.of_desk s.post_desk

theorem HasFlag.noteShortage (h : s.HasFlag f) : s.noteShortage.HasFlag f := by
  unfold State.noteShortage
  split
  · exact h
  · exact HasFlag.raise (s := s.setRoom _) h _

theorem HasFlag.startEntry (h : s.HasFlag f) (e : Entry) (rest : List Entry) : (s.startEntry e rest).HasFlag f := by
  have hqueued := HasFlag.raise (s := s.lyricCatchUp.graderCatchUp.setRoom
    { s.lyricCatchUp.graderCatchUp.room with entries := rest, shortage := false }) h .queueChanged
  exact hqueued.of_desk (by simp [State.startEntry])

theorem HasFlag.reexamine (h : s.HasFlag f) : s.reexamine.HasFlag f := by
  obtain hr | hr | ⟨-, -, e, rest, -, hr⟩ := s.reexamine_cases <;> rw [hr]
  · exact h
  · exact h.noteShortage
  · exact h.startEntry e rest

theorem HasFlag.reexamineEvent (h : s.HasFlag f) : s.reexamineEvent.HasFlag f := by
  obtain hr | hr | hr := s.reexamineEvent_cases <;> rw [hr]
  · exact h.reexamine.post
  · exact h
  · exact h.noteShortage

theorem HasFlag.queueEvent (h : s.HasFlag f) (q : RoomQueue) : (s.queueEvent q).HasFlag f := by
  have hchanged : ((s.setRoom q).raise .queueChanged).HasFlag f := HasFlag.raise (s := s.setRoom q) h _
  obtain ⟨-, hr⟩ | ⟨-, hr⟩ := ((s.setRoom q).raise .queueChanged).headEvent_cases s.room.headId <;>
    rw [State.queueEvent, hr]
  · exact hchanged
  · exact (hchanged.of_desk (setStore_desk _ _)).reexamine.post

theorem HasFlag.queued (h : s.HasFlag f) (hq : s.Queued t) : t.HasFlag f := by
  obtain rfl | ⟨q, -, rfl⟩ := hq
  · exact h
  · exact h.queueEvent q

theorem HasFlag.accountEvent (h : s.HasFlag f) (q : RoomQueue) : (s.accountEvent q).HasFlag f := by
  obtain hr | hr := s.accountEvent_cases q <;> rw [hr]
  · exact h
  · exact HasFlag.reexamineEvent (s := s.setRoom q) h

theorem HasFlag.idleEvent (h : s.HasFlag f) : s.idleEvent.HasFlag f :=
  (HasFlag.reexamine (s := s.setDeck s.deck.toIdle) h).post

theorem HasFlag.addRecord (h : s.HasFlag f) (r : HistoryRecord) : (s.addRecord r).HasFlag f := by
  have hadded := HasFlag.raise (s := s.setResults (s.results.add r)) h .songDone
  unfold State.addRecord
  dsimp only
  split
  · exact hadded.raise _
  · exact hadded

theorem HasFlag.finalise (h : s.HasFlag f) (o : SongOutcome) (m : Nat) : (s.finalise o m).HasFlag f := by
  unfold State.finalise
  split
  · exact h
  dsimp only
  split
  · exact (h.of_desk (by simp)).addRecord _
  · exact (h.of_desk (by simp)).addRecord _

theorem HasFlag.endSong (h : s.HasFlag f) (o : SongOutcome) : (s.endSong o).HasFlag f :=
  HasFlag.finalise (s := s.setDeck s.deck.enterStopping) h o _

theorem HasFlag.skipEvent (h : s.HasFlag f) (i : Nat) : (s.skipEvent i).1.HasFlag f := by
  obtain hr | ⟨-, -, hr⟩ := s.skipEvent_cases i <;> rw [hr]
  · exact h
  · exact (h.endSong _).post

theorem HasFlag.stopSongEvent (h : s.HasFlag f) : s.stopSongEvent.1.HasFlag f := by
  obtain hr | ⟨-, -, hr⟩ := s.stopSongEvent_cases <;> rw [hr]
  · exact h
  · exact (h.endSong _).post

theorem HasFlag.stageCloseEvent (h : s.HasFlag f) (i : Nat) : (s.stageCloseEvent i).1.HasFlag f := by
  obtain hr | ⟨-, -, hr⟩ | ⟨-, hr⟩ := s.stageCloseEvent_cases i <;> rw [hr]
  · exact h
  · exact (h.of_desk (setStore_desk _ _)).reexamine.post
  · exact h

theorem HasFlag.stageFailEvent (h : s.HasFlag f) (i : Nat) : (s.stageFailEvent i).1.HasFlag f := by
  obtain hr | ⟨e, -, hr⟩ := s.stageFailEvent_cases i <;> rw [hr]
  · exact h
  · exact (h.addRecord _).queueEvent _

theorem HasFlag.takeEnd (h : s.HasFlag f) (m : Nat) : (s.takeEnd m).1.HasFlag f := by
  obtain hr | ⟨-, hr⟩ | ⟨-, -, marked, o, final, hr, hmarked⟩ := s.takeEnd_cases m <;> rw [hr]
  · exact h
  · exact h.idleEvent
  · have hdesk : marked.desk = s.desk := by obtain rfl | rfl | rfl := hmarked <;> simp
    exact ((h.of_desk hdesk).finalise o final).idleEvent

theorem HasFlag.takeMark (h : s.HasFlag f) (i m : Nat) (k : Byte) : (s.takeMark i m k).1.HasFlag f := by
  obtain hr | ⟨-, hr | hr⟩ := s.takeMark_cases i m k <;> rw [hr]
  · exact h
  · exact h.of_desk (s.takeRun_desk m)
  · exact h.takeEnd m

theorem HasFlag.stallExpiry (h : s.HasFlag f) : (stallExpiry s).HasFlag f :=
  HasFlag.raise (s := s.setDeck s.deck.stall) h _

theorem HasFlag.tickDeck (h : s.HasFlag f) : (tickDeck s).HasFlag f := by
  obtain ⟨-, hr⟩ | ⟨-, -, hr⟩ | ⟨-, hr⟩ := s.tickDeck_cases <;> rw [hr]
  · exact h
  · exact h
  · exact HasFlag.stallExpiry (s := (s.setDeck s.deck.tick).handAdvance .step) h

theorem HasFlag.roomClearEvent (h : s.HasFlag f) : s.roomClearEvent.HasFlag f := by
  have hqueue := HasFlag.raise (s := s.setRoom s.room.cleared) h .queueChanged
  unfold State.roomClearEvent
  exact HasFlag.post (HasFlag.raise (hqueue.of_desk (by simp)) .boardChanged)

theorem HasFlag.standbyEvent (h : s.HasFlag f) : s.standbyEvent.1.HasFlag f := by
  obtain hr | ⟨-, hr⟩ := s.standbyEvent_cases <;> rw [hr]
  · exact h
  · exact h

theorem HasFlag.leaveStandby (h : s.HasFlag f) : s.leaveStandby.HasFlag f := by
  have hwoken := HasFlag.raise (s := s.setDesk { s.desk with standby := false }) h .woke
  exact HasFlag.reexamineEvent (hwoken.of_desk (setFront_desk _ _))

theorem HasFlag.configure (h : s.HasFlag f) (item : ConfigItem) (v : Nat) : (configure s item v).HasFlag f := by
  cases item
  case baud =>
    unfold Machine.configure setBaud
    dsimp only
    split
    · exact h
    · exact h
  all_goals exact h

/-- An ACK EVENTS that does not name a flag leaves it (R193). -/
theorem HasFlag.ackEventsCommand {p : List Byte} (h : s.HasFlag f) (hnot : (fieldAt p 0 2).testBit f.bit ≠ true) :
    (ackEventsCommand p s).1.HasFlag f := by
  have hset : s.desk.flags.has f = true := h
  have hleft : (s.desk.flags.without (.ofWord (fieldAt p 0 2))).has f = true := by
    rw [EventFlags.has_without, EventFlags.has_ofWord, hset, Bool.eq_false_iff.2 hnot]
    rfl
  exact hleft

/-! ## Every command -/

/-- A set flag stays set through every event but an ACK EVENTS and the leaving of reset (R192, R204). -/
theorem hasFlag_keptByMost (f : EventFlag) : KeptByMost (fun s => s.HasFlag f) where
  raise _ g h := h.raise g
  panel _ _ _ h := h.of_desk (by simp)
  port _ _ _ h := h
  desk _ _ _ _ hflags h := h.of_flags hflags
  frontTick _ h := h
  settled _ _ h := h
  conversion _ _ _ _ h := h
  edge _ _ _ _ h := h
  resetUnit _ _ h := h
  leaveStandby _ _ h := h.leaveStandby
  standby _ h := h.standbyEvent
  submit _ _ _ _ h := h.queued (submit_queued _ _ _ _)
  cancel _ _ _ h := h.queued (cancel_queued _ _ _)
  panelMove _ _ _ _ h := h.queued (panelMove_queued _ _ _ _)
  deskMove _ _ _ h := h.queued (deskMove_queued _ _ _)
  promote _ _ h := h.queued (promoteId_queued _ _)
  remove _ _ h := h.queued (removeId_queued _ _)
  addCredits _ _ h := h.accountEvent _
  setUnlimited _ _ h := h.accountEvent _
  lock _ h := h
  unlock s h := HasFlag.reexamineEvent (s := s.setRoom { s.room with locked := false }) h
  configure _ item v h := h.configure item v
  newSession _ h := h
  stageOpen _ _ h := h.of_desk (stageOpenEvent_desk _ _)
  stageLine _ _ h := h.of_desk (stageLineEvent_desk _ _)
  stageNote _ _ h := h.of_desk (stageNoteEvent_desk _ _)
  stageClose _ i h := h.stageCloseEvent i
  stageFail _ i h := h.stageFailEvent i
  hold _ h := h.of_desk (holdEvent_desk _)
  go _ h := h.of_desk (goEvent_desk _)
  key _ _ h := h.of_desk (keyEvent_desk _ _)
  skip _ i h := h.skipEvent i
  stopSong _ h := h.stopSongEvent
  tick _ h := h.tickDeck
  stall _ _ h := h.stallExpiry
  startExpiry _ _ h := (h.endSong _).post
  limitExpiry _ _ h := ((h.endSong _).raise _).post
  stopExpiry _ _ h := h.idleEvent
  lyricTake _ _ _ _ h := h
  graderTake _ _ _ _ h := h
  scene _ h := h.of_desk (by simp [sceneLyric])
  lyricNewSong _ h := h
  lyricDropSong _ h := h
  graderNewSong _ h := h.of_desk (graderNewSong_desk _)
  finalScores _ _ h := h
  songEnded _ h := h
  discard _ h := h
  sample _ _ _ h := h.of_desk (routeSample_desk _ _ _)

end State

/-- Settles O58: of the events that `KeptByMost` leaves out, a mark, CREDITS SET and ROOM CLEAR keep a set flag too, and an
ACK EVENTS keeps one that it does not name. -/
theorem flagsClearedByAckOrReset : Obligations.FlagsClearedByAckOrReset := by
  intro c s t f hwf hexec hset
  by_contra hnot
  simp only [not_or, not_exists, not_and] at hnot
  obtain ⟨hcleared, hack, hreset⟩ := hnot
  refine hcleared ((hasFlag_keptByMost f).exec (fun _ _ _ _ h => h.takeMark _ _ _) (fun p hc _ h => ?_)
    (fun _ _ _ h => h.accountEvent _) (fun _ _ _ h => h.roomClearEvent) (fun pins hc => absurd hc (hreset pins))
    hset hexec)
  obtain hc | rfl := hc
  · exact h.ackEventsCommand (hack p hc)
  · simp [Instr.wellFormed, isDeskKind, DeskKind.code] at hwf

end Sys2Proof.Machine
end

section
/-! # The reset conditions and the hold (R198) -/

namespace Sys2Proof.Machine

open State

variable {s : State}

namespace ResetUnit

/-- A low supply in a hold that POWER_ON began leaves the cause as it is (R198). -/
theorem lowSupply_restarting {r : ResetUnit}
    (h : r.inReset = true ∧ r.startupHold = true ∧ r.holdFromPowerOn = true) :
    r.lowSupply = { r with supplyValid := false, holdTimer := none } :=
  if_pos (by simp [h])

theorem lowSupply_recorded {r : ResetUnit}
    (h : ¬(r.inReset = true ∧ r.startupHold = true ∧ r.holdFromPowerOn = true)) :
    r.lowSupply = { r with
      inReset := true, cause := .lowSupply, supplyValid := false, startupHold := true, holdFromPowerOn := false,
      holdTimer := none } :=
  if_neg (by simpa [and_assoc] using h)

theorem recover_invalid {r : ResetUnit} (hreset : r.inReset = true) (hinvalid : r.supplyValid = false) :
    r.recover = { r with supplyValid := true, startupHold := true, holdTimer := some 65 } :=
  if_pos (by simp [hreset, hinvalid])

theorem recover_otherwise {r : ResetUnit} (h : r.inReset = false ∨ r.supplyValid = true) : r.recover = r :=
  if_neg (by obtain h | h := h <;> simp [h])

theorem tick_counting {r : ResetUnit} {left : Nat} (hleft : r.holdTimer = some left) (hmore : 1 < left) :
    r.tick = { r with holdTimer := some (left - 1) } := by
  rw [tick, hleft]
  exact if_pos hmore

theorem tick_last {r : ResetUnit} {left : Nat} (hleft : r.holdTimer = some left) (hlast : left ≤ 1) :
    r.tick = { r with startupHold := false, holdFromPowerOn := false, holdTimer := none } := by
  rw [tick, hleft]
  exact if_neg (Nat.not_lt.2 hlast)

theorem tick_uncounted {r : ResetUnit} (hnone : r.holdTimer = none) : r.tick = r := by
  rw [tick, hnone]

theorem mayLeave_eq_false {r : ResetUnit} (h : r.inReset = false ∨ r.pinHeld = true ∨ r.supplyValid = false) :
    r.mayLeave = false := by
  obtain h | h | h := h <;> simp [mayLeave, h]

end ResetUnit

theorem running_eq_false (h : s.resetUnit.inReset = true) : s.running = false := by rw [State.running, h]; rfl

theorem exec_lowSupply (s : State) : exec .lowSupply s = .next (s.setResetUnit s.resetUnit.lowSupply) := rfl

theorem exec_supplyRecovery (s : State) : exec .supplyRecovery s = .next (s.setResetUnit s.resetUnit.recover) := rfl

theorem exec_leavingReset (pins : BitVec 2) (s : State) : exec (.leavingReset pins) s =
    .next (if s.resetUnit.mayLeave then afterReset pins s else s) := rfl

/-- Settles O52: every row of reset, and a tick in it, changes the reset unit alone, by its own operation. -/
theorem resetConditions : Obligations.ResetConditions := by
  intro s u restarts
  refine ⟨rfl, fun h => ?_, fun h => ?_, rfl, fun hreset hinvalid => ?_, fun left hreset hleft hmore => ?_,
    fun left hreset hleft hlast => ?_, fun hreset hnone => ?_, fun h => ?_, rfl, fun pins h => ?_⟩
  · rw [exec_lowSupply, ResetUnit.lowSupply_restarting h]
  · rw [exec_lowSupply, ResetUnit.lowSupply_recorded h]
  · rw [exec_supplyRecovery, ResetUnit.recover_invalid hreset hinvalid]
  · rw [exec_millisecondTick_inReset (running_eq_false hreset), ResetUnit.tick_counting hleft hmore]
  · rw [exec_millisecondTick_inReset (running_eq_false hreset), ResetUnit.tick_last hleft hlast]
  · rw [exec_millisecondTick_inReset (running_eq_false hreset), ResetUnit.tick_uncounted hnone, setResetUnit_self]
  · rw [exec_supplyRecovery, ResetUnit.recover_otherwise h, setResetUnit_self]
  · rw [exec_leavingReset, ResetUnit.mayLeave_eq_false h]
    rfl

end Sys2Proof.Machine
end

section
/-! # Every command answers a next state and leaves the commands that wait

The waiting commands are no block's: every event of the blocks leaves them.  `Kept` would ask too much, for a step takes the
front command off the queue; its part for the commands, `KeptByMost`, is what holds here. -/

namespace Sys2Proof.Machine

namespace State

/-! ## Events without a frame lemma of their own -/

@[simp] theorem configure_pending (s : State) (item : ConfigItem) (v : Nat) :
    (configure s item v).pending = s.pending := by
  cases item
  case baud =>
    unfold configure setBaud
    dsimp only
    split <;> rfl
  all_goals rfl

@[simp] theorem stallExpiry_pending (s : State) : (stallExpiry s).pending = s.pending := by simp [stallExpiry]

@[simp] theorem tickDeck_pending (s : State) : (tickDeck s).pending = s.pending := by
  obtain ⟨-, h⟩ | ⟨-, -, h⟩ | ⟨-, h⟩ := s.tickDeck_cases <;> simp [h]

@[simp] theorem sceneLyric_pending (s : State) : (sceneLyric s).pending = s.pending := by simp [sceneLyric]

/-! ## Every event -/

/-- The commands that wait stay through every event of the blocks. -/
theorem pending_keptByMost (q : List Instr) : KeptByMost (fun s => s.pending = q) where
  raise _ _ h := (raise_pending _ _).trans h
  panel _ _ _ h := (setPanel_pending _ _ _).trans h
  port _ _ _ h := h
  desk _ _ _ _ _ h := h
  frontTick _ h := h
  settled _ _ h := h
  conversion _ _ _ _ h := h
  edge _ _ _ _ h := h
  resetUnit _ _ h := h
  leaveStandby _ _ h := (leaveStandby_pending _).trans h
  standby _ h := (standbyEvent_pending _).trans h
  submit _ _ _ _ h := (submit_pending _ _ _ _).trans h
  cancel _ _ _ h := (cancel_pending _ _ _).trans h
  panelMove _ _ _ _ h := (panelMove_pending _ _ _ _).trans h
  deskMove _ _ _ h := (deskMove_pending _ _ _).trans h
  promote _ _ h := (promoteId_pending _ _).trans h
  remove _ _ h := (removeId_pending _ _).trans h
  addCredits _ _ h := (accountEvent_pending _ _).trans h
  setUnlimited _ _ h := (accountEvent_pending _ _).trans h
  lock _ h := h
  unlock _ h := (unlockRoom_pending _).trans h
  configure _ _ _ h := (configure_pending _ _ _).trans h
  newSession _ h := h
  stageOpen _ _ h := (stageOpenEvent_pending _ _).trans h
  stageLine _ _ h := (stageLineEvent_pending _ _).trans h
  stageNote _ _ h := (stageNoteEvent_pending _ _).trans h
  stageClose _ _ h := (stageCloseEvent_pending _ _).trans h
  stageFail _ _ h := (stageFailEvent_pending _ _).trans h
  hold _ h := (holdEvent_pending _).trans h
  go _ h := (goEvent_pending _).trans h
  key _ _ h := (keyEvent_pending _ _).trans h
  skip _ _ h := (skipEvent_pending _ _).trans h
  stopSong _ h := (stopSongEvent_pending _).trans h
  tick _ h := (tickDeck_pending _).trans h
  stall _ _ h := (stallExpiry_pending _).trans h
  startExpiry _ _ h := by simpa using h
  limitExpiry _ _ h := by simpa using h
  stopExpiry _ _ h := (idleEvent_pending _).trans h
  lyricTake _ _ _ _ h := h
  graderTake _ _ _ _ h := h
  scene _ h := (sceneLyric_pending _).trans h
  lyricNewSong _ h := (lyricNewSong_pending _).trans h
  lyricDropSong _ h := (lyricDropSong_pending _).trans h
  graderNewSong _ h := (graderNewSong_pending _).trans h
  finalScores _ _ h := (graderFinalScores_pending _ _).trans h
  songEnded _ h := (graderSongEnded_pending _).trans h
  discard _ h := (graderDiscard_pending _).trans h
  sample _ _ _ h := (routeSample_pending _ _ _).trans h

end State

open State

/-! ## Every command -/

/-- No row faults and none is refused: each arm of `exec` is a next state whatever the state is. -/
theorem exec_completes (c : Instr) (s : State) : ∃ t, exec c s = .next t := by
  cases c <;> exact ⟨_, rfl⟩

/-- Of the events that `KeptByMost` leaves out, too, none touches the commands that wait; not even reset does. -/
theorem exec_pending {c : Instr} {s t : State} (hexec : exec c s = .next t) : t.pending = s.pending :=
  (pending_keptByMost s.pending).exec
    (fun _ _ _ u (h : u.pending = s.pending) => (takeMark_pending u _ _ _).trans h)
    (fun _ _ _ h => h)
    (fun _ _ u h => (accountEvent_pending u _).trans h)
    (fun _ _ u h => (roomClearEvent_pending u).trans h)
    (fun _ _ _ h => h)
    rfl hexec

/-- Settles O51: a command answers a next state, and that state's waiting commands are those before it. -/
theorem everyCommandCompletesAndKeepsQueue : Obligations.EveryCommandCompletesAndKeepsQueue := by
  intro c s
  obtain ⟨t, hexec⟩ := exec_completes c s
  exact ⟨t, hexec, exec_pending hexec⟩

end Sys2Proof.Machine
end
